-- ==== Sys2Proof/Word.lean ====
section
/-! DEFINITION. The bit-vector types of the codec, by the widths of spec/00_scope.md R9 and 10_state.md. -/

namespace Sys2Proof

/-- A data byte, a command byte, a transport status, a host argument (R9, R101). -/
abbrev Byte := BitVec 8

/-- A 7-bit bus address (R9, R22). -/
abbrev BusAddr := BitVec 7

/-- A host request word REQ (R70). -/
abbrev ReqWord := BitVec 12

/-- The operation code OP, REQ[11:8] (R70, R71). -/
abbrev OpCode := BitVec 4

/-- A raw measurement code (R9, R26). -/
abbrev MeasCode := BitVec 16

/-- A binary64 bit pattern (R27). -/
abbrev Bin64 := BitVec 64

end Sys2Proof
end

