-- ==== Sys2Proof/Syntax.lean ====
section
/-! DEFINITION. The instructions: one constructor per row of spec/opcode_table.json, the eight host requests (R71) and the
eleven wire commands (R72). -/

namespace Sys2Proof

/-- An instruction of the codec. A host request keeps its whole ARG byte, also where R75 ignores it, because the register ARG
holds it (R100). A register write on the wire keeps its data byte (R73, format WD). -/
inductive Instr where
  /-- BEGIN, OP 0x1 (R131). -/
  | reqBegin (arg : Byte)
  /-- READ_RH, OP 0x2 (R150). -/
  | reqReadRh (arg : Byte)
  /-- READ_T, OP 0x3 (R151). -/
  | reqReadT (arg : Byte)
  /-- READ_LAST_T, OP 0x4 (R152). -/
  | reqReadLastT (arg : Byte)
  /-- RESET, OP 0x5 (R130). -/
  | reqReset (arg : Byte)
  /-- READ_DEVINFO, OP 0x6 (R180). -/
  | reqReadDevinfo (arg : Byte)
  /-- SET_HEATER_EN, OP 0x7 (R193). -/
  | reqSetHeaterEn (arg : Byte)
  /-- SET_HEATER_PWR, OP 0x8 (R194). -/
  | reqSetHeaterPwr (arg : Byte)
  /-- MEAS_RH_NOHOLD, F5 (R230). -/
  | wireMeasRhNohold
  /-- MEAS_T_NOHOLD, F3 (R231). -/
  | wireMeasTNohold
  /-- READ_PREV_T, E0 (R232). -/
  | wireReadPrevT
  /-- DEV_RESET, FE (R233). -/
  | wireDevReset
  /-- WRITE_USER_REG, E6 v (R234). -/
  | wireWriteUserReg (v : Byte)
  /-- READ_USER_REG, E7 (R235). -/
  | wireReadUserReg
  /-- WRITE_HEATER_REG, 51 v (R236; 90_conflicts.md C3). -/
  | wireWriteHeaterReg (v : Byte)
  /-- READ_HEATER_REG, 11 (R237). -/
  | wireReadHeaterReg
  /-- READ_SN_PART1, FA 0F (R238). -/
  | wireReadSnPart1
  /-- READ_SN_PART2, FC C9 (R239). -/
  | wireReadSnPart2
  /-- READ_FWREV, 84 B8 (R240). -/
  | wireReadFwrev
  deriving DecidableEq, Repr

end Sys2Proof
end

