-- ==== Sys2Proof/WellFormed.lean ====
section
/-! DEFINITION. Well-formedness. An instruction's operands are bit vectors of the widths R70 and R73 give, so their range is
already in the types; what a request program may write (R83) is a number, and its range is checked here. -/

namespace Sys2Proof

/-- An instruction is well-formed when its operands fit their fields: ARG is 8 bits wide (R70, R75, D17) and so is the data
byte of a WD frame (R73). The types of `Instr` leave no operand out of range, so every arm holds. -/
def Instr.wellFormed : Instr → Bool
  | .reqBegin arg => arg.toNat < 256
  | .reqReadRh arg => arg.toNat < 256
  | .reqReadT arg => arg.toNat < 256
  | .reqReadLastT arg => arg.toNat < 256
  | .reqReset arg => arg.toNat < 256
  | .reqReadDevinfo arg => arg.toNat < 256
  | .reqSetHeaterEn arg => arg.toNat < 256
  | .reqSetHeaterPwr arg => arg.toNat < 256
  | .wireMeasRhNohold => true
  | .wireMeasTNohold => true
  | .wireReadPrevT => true
  | .wireDevReset => true
  | .wireWriteUserReg v => v.toNat < 256
  | .wireReadUserReg => true
  | .wireWriteHeaterReg v => v.toNat < 256
  | .wireReadHeaterReg => true
  | .wireReadSnPart1 => true
  | .wireReadSnPart2 => true
  | .wireReadFwrev => true

/-- One line of a request program (R83), with its number as written. -/
inductive ReqLine where
  | beginReq
  | readRh
  | readT
  | readLastT
  | resetReq
  | readDevinfo
  | setHeaterEn (state : Nat)
  | setHeaterPwr (imm : Nat)
  | raw (req : Nat)
  deriving DecidableEq, Repr

/-- The ranges R83 gives: SET_HEATER_EN takes 0 or 1, SET_HEATER_PWR 0 to 255, .req a 12-bit word. -/
def ReqLine.wellFormed : ReqLine → Bool
  | .beginReq => true
  | .readRh => true
  | .readT => true
  | .readLastT => true
  | .resetReq => true
  | .readDevinfo => true
  | .setHeaterEn state => state < 2
  | .setHeaterPwr imm => imm < 256
  | .raw req => req < 4096

end Sys2Proof
end

