-- ==== Sys2Proof/Decode.lean ====
section
/-! DEFINITION. The two encodings of spec/30_encoding.md: the 12-bit host request (R70, R71) and the wire frame (R72, R73,
R81). The decoder is total and rejects by name; the encoder stands after it. -/

namespace Sys2Proof

/-- What the codec presents to its decoder: a request word of the request port, or the command bytes of a transaction. -/
inductive Code where
  | request (w : ReqWord)
  | frame (bs : List Byte)
  deriving DecidableEq, Repr

/-- Why a code is no instruction. -/
inductive DecodeError where
  /-- OP is 0x0 or 0x9 to 0xF (R78). -/
  | reservedOp (op : OpCode)
  /-- An empty frame: a write phase sends at least one byte (R56). -/
  | emptyFrame
  /-- No command of R72 begins with this byte (R79). -/
  | unknownCommand (b : Byte)
  /-- A two-byte command or a register write without its second byte (R81). -/
  | truncatedFrame (b : Byte)
  /-- The second byte is not the one R72 gives after this first byte. -/
  | unknownSecondByte (b0 b1 : Byte)
  /-- Bytes left over: one write phase carries one command (R105). -/
  | trailingBytes (rest : List Byte)
  deriving DecidableEq, Repr

/-! ## Host requests -/

/-- OP of a request word: REQ[11:8] (R70). -/
def reqOp (w : ReqWord) : OpCode := w.extractLsb' 8 4

/-- ARG of a request word: REQ[7:0] (R70). -/
def reqArg (w : ReqWord) : Byte := w.extractLsb' 0 8

/-- The request word OP:ARG (R70). -/
def reqWord (op : OpCode) (arg : Byte) : ReqWord := op ++ arg

/-- OP code of BEGIN (R71). -/
def opBegin : OpCode := 0x1
/-- OP code of READ_RH (R71). -/
def opReadRh : OpCode := 0x2
/-- OP code of READ_T (R71). -/
def opReadT : OpCode := 0x3
/-- OP code of READ_LAST_T (R71). -/
def opReadLastT : OpCode := 0x4
/-- OP code of RESET (R71). -/
def opReset : OpCode := 0x5
/-- OP code of READ_DEVINFO (R71). -/
def opReadDevinfo : OpCode := 0x6
/-- OP code of SET_HEATER_EN (R71). -/
def opSetHeaterEn : OpCode := 0x7
/-- OP code of SET_HEATER_PWR (R71). -/
def opSetHeaterPwr : OpCode := 0x8

/-- The operation of an OP code with its ARG; none where OP is reserved (R71, R78). -/
def hostInstr (op : OpCode) (arg : Byte) : Option Instr :=
  match op.toNat with
  | 0x1 => some (.reqBegin arg)
  | 0x2 => some (.reqReadRh arg)
  | 0x3 => some (.reqReadT arg)
  | 0x4 => some (.reqReadLastT arg)
  | 0x5 => some (.reqReset arg)
  | 0x6 => some (.reqReadDevinfo arg)
  | 0x7 => some (.reqSetHeaterEn arg)
  | 0x8 => some (.reqSetHeaterPwr arg)
  | _ => none

/-- Decode a request word (R70, R71, R78). -/
def decodeRequest (w : ReqWord) : Except DecodeError Instr :=
  match hostInstr (reqOp w) (reqArg w) with
  | some i => .ok i
  | none => .error (.reservedOp (reqOp w))

/-! ## Wire commands -/

/-- Read a two-byte command whose second byte is fixed (format W2, R73). -/
def decodeW2 (b0 second : Byte) (i : Instr) : List Byte → Except DecodeError (Instr × List Byte)
  | [] => .error (.truncatedFrame b0)
  | b1 :: rest => if b1 = second then .ok (i, rest) else .error (.unknownSecondByte b0 b1)

/-- Read the data byte of a register write (format WD, R73). -/
def decodeWD (b0 : Byte) (mk : Byte → Instr) : List Byte → Except DecodeError (Instr × List Byte)
  | [] => .error (.truncatedFrame b0)
  | v :: rest => .ok (mk v, rest)

/-- Split the first command off a stream of command bytes: the first byte fixes the length (R81). -/
def decodeWire : List Byte → Except DecodeError (Instr × List Byte)
  | [] => .error .emptyFrame
  | b0 :: rest =>
    match b0.toNat with
    | 0xF5 => .ok (.wireMeasRhNohold, rest)
    | 0xF3 => .ok (.wireMeasTNohold, rest)
    | 0xE0 => .ok (.wireReadPrevT, rest)
    | 0xFE => .ok (.wireDevReset, rest)
    | 0xE6 => decodeWD b0 .wireWriteUserReg rest
    | 0xE7 => .ok (.wireReadUserReg, rest)
    | 0x51 => decodeWD b0 .wireWriteHeaterReg rest
    | 0x11 => .ok (.wireReadHeaterReg, rest)
    | 0xFA => decodeW2 b0 0x0F .wireReadSnPart1 rest
    | 0xFC => decodeW2 b0 0xC9 .wireReadSnPart2 rest
    | 0x84 => decodeW2 b0 0xB8 .wireReadFwrev rest
    | _ => .error (.unknownCommand b0)

/-- One frame is one command, whole (R105). -/
def decodeFrame (bs : List Byte) : Except DecodeError Instr :=
  match decodeWire bs with
  | .ok (i, []) => .ok i
  | .ok (_, b :: rest) => .error (.trailingBytes (b :: rest))
  | .error e => .error e

/-- The decoder. -/
def decode : Code → Except DecodeError Instr
  | .request w => decodeRequest w
  | .frame bs => decodeFrame bs

/-! ## The encoder -/

/-- The code of an instruction, from the tables of R71, R72 and R73. -/
def encode : Instr → Code
  | .reqBegin arg => .request (reqWord 0x1 arg)
  | .reqReadRh arg => .request (reqWord 0x2 arg)
  | .reqReadT arg => .request (reqWord 0x3 arg)
  | .reqReadLastT arg => .request (reqWord 0x4 arg)
  | .reqReset arg => .request (reqWord 0x5 arg)
  | .reqReadDevinfo arg => .request (reqWord 0x6 arg)
  | .reqSetHeaterEn arg => .request (reqWord 0x7 arg)
  | .reqSetHeaterPwr arg => .request (reqWord 0x8 arg)
  | .wireMeasRhNohold => .frame [0xF5]
  | .wireMeasTNohold => .frame [0xF3]
  | .wireReadPrevT => .frame [0xE0]
  | .wireDevReset => .frame [0xFE]
  | .wireWriteUserReg v => .frame [0xE6, v]
  | .wireReadUserReg => .frame [0xE7]
  | .wireWriteHeaterReg v => .frame [0x51, v]
  | .wireReadHeaterReg => .frame [0x11]
  | .wireReadSnPart1 => .frame [0xFA, 0x0F]
  | .wireReadSnPart2 => .frame [0xFC, 0xC9]
  | .wireReadFwrev => .frame [0x84, 0xB8]

/-! ## The opcode table's words -/

/-- The code that a word of spec/opcode_table.json stands for. A request row is 12 bits in two whole bytes, so its upper four
bits are 0; a wire row is one or two bytes read as one number, the first byte the high one (R53 and the table's own `fixed`
bits; log entry 21). A one-byte word that begins a register write is taken with a data byte of zero. -/
def tableCode (nbits w : Nat) : Option Code :=
  if nbits ≤ 8 then
    if w < 256 then
      let b := BitVec.ofNat 8 w
      match decodeFrame [b] with
      | .ok _ => some (.frame [b])
      | .error _ => some (.frame [b, 0])
    else none
  else if nbits ≤ 16 then
    if w < 4096 then some (.request (BitVec.ofNat 12 w))
    else if w < 65536 then some (.frame [BitVec.ofNat 8 (w / 256), BitVec.ofNat 8 w])
    else none
  else none

/-- The instruction the decoder reads from a word of the opcode table; none where it refuses. -/
def decodeTableWord (nbits w : Nat) : Option Instr :=
  match tableCode nbits w with
  | some c =>
    match decode c with
    | .ok i => some i
    | .error _ => none
  | none => none

end Sys2Proof
end

