-- ==== Sys2Proof/Config.lean ====
section
/-! DEFINITION. What a codec is built with (spec/00_scope.md R8), the fixed constants, and the free values no rule fixes. -/

namespace Sys2Proof

/-- `P_BEGIN_VARIANT` (R8, R131): whether BEGIN ignores a mismatch when the register read's write phase failed. -/
inductive BeginVariant where
  | checkRead
  | ignoreRead
  deriving DecidableEq, Repr

/-- The implementation parameters of R8. The state carries them, so that a statement about every state is one about every
built codec. -/
structure Params where
  devAddr : BusAddr
  capChecksum : Bool
  capDevinfo : Bool
  capHeater : Bool
  readOnWriteFail : Bool
  beginVariant : BeginVariant
  deriving DecidableEq, Repr

/-- The parameters of `State.reset`: the address default of R8 and, for what R8 leaves without a default, the setting of
spec/95_test_vectors.md. DESIGN CHOICE (unsafe): log entry 7. -/
def Config.params : Params where
  devAddr := 0x40
  capChecksum := true
  capDevinfo := true
  capHeater := true
  readOnWriteFail := false
  beginVariant := .checkRead

/-- `T_MEAS_MS` (R8, R291). -/
def Config.tMeasMs : Nat := 25

/-- `T_RESET_MS` (R8, R291). -/
def Config.tResetMs : Nat := 50

/-- `CFG_DEFAULT` (R8, R132). -/
def Config.cfgDefault : Byte := 0x3A

/-- K1 of R157, the binary64 nearest to 175.72. -/
def Config.k1 : Bin64 := 0x4065F70A3D70A3D7

/-- K2 of R157, the binary64 nearest to 46.85. -/
def Config.k2 : Bin64 := 0x40476CCCCCCCCCCD

/-- Free value: the status byte of a write phase for which the state lists no answer (R101, I1; log entry 8). -/
opaque Config.busStatus : Nat → Byte

/-- Free value: a byte of a read phase for which the state lists no answer (R101, I2; log entry 8). -/
opaque Config.busByte : Nat → Byte

/-- Free value: the draw of R11, taken for a byte of a skipped read (R109, I4; log entry 9). -/
opaque Config.draw : Nat → Byte

end Sys2Proof
end

