-- ==== Sys2Proof/Machine/State.lean ====
section
/-! DEFINITION. The codec's state (spec/10_state.md), the ports it consumes and the observation (spec/40_transaction.md), as
plain data; the reasons a read of a host register can stop; the state after codec reset (R42, R280). -/

namespace Sys2Proof.Machine

/-- A register that R42 resets to "no value" (R11). `held` is the spec's own state: false until something has written the
register. `val` is what the register stores; while `held` is false it is the model's stored value (zero, DESIGN CHOICE, log
entry 2), and the host port refuses to show it (R11, R36). -/
structure Reg (α : Type) where
  val : α
  held : Bool
  deriving DecidableEq, Repr

/-- A register nothing has written, storing `z`. -/
def Reg.unwritten {α : Type} (z : α) : Reg α := ⟨z, false⟩

/-- A register that has been written. -/
def Reg.of {α : Type} (v : α) : Reg α := ⟨v, true⟩

/-- The error codes of R251. -/
inductive ErrCode where
  | none
  | busWrite
  | configMismatch
  | illegalOp
  | capDisabled
  deriving DecidableEq, Repr

/-- TXPH: the phase of the current transaction (R21, R104). -/
inductive TxPhase where
  | write
  | settle
  | read
  | decode
  deriving DecidableEq, Repr

/-- OP, ARG, USTEP and TXPH (R21): the registers that hold a value exactly while a request runs (R112). -/
structure Running where
  op : OpCode
  arg : Byte
  ustep : Fin 4
  txph : TxPhase
  deriving DecidableEq, Repr

/-- SEQ (R21), with what the sequencer holds while BUSY. -/
inductive Seq where
  | idle
  | busy (r : Running)
  deriving DecidableEq, Repr

/-- One event of the observation (R84, R114). -/
inductive Event where
  /-- `W <addr> [bytes] hold=<hold> -> st=<st>`. -/
  | write (addr : BusAddr) (bytes : List Byte) (hold : Bool) (st : Byte)
  /-- `D <ms>`. -/
  | delay (ms : Nat)
  /-- `R <addr> <n> -> [bytes]`. -/
  | read (addr : BusAddr) (n : Nat) (bytes : List Byte)
  deriving DecidableEq, Repr

/-- What the transport will do with one read phase (R101): return bytes, or never return. -/
inductive ReadAnswer where
  | bytes (bs : List Byte)
  | hang
  deriving DecidableEq, Repr

/-- The state of the codec, of the ports it stands at, and of the observation. -/
structure State where
  /-- The implementation parameters (R8). -/
  params : Params
  /-- SEQ, and OP, ARG, USTEP, TXPH while BUSY (R21). -/
  seq : Seq
  /-- DEV_ADDR (R22). -/
  devAddr : BusAddr
  /-- CAPS (R31). -/
  caps : Byte
  /-- VALID (R23). -/
  valid : Bool
  /-- STATUS (R28). -/
  status : Byte
  /-- FIRSTERR (R35). -/
  firstErr : ErrCode
  /-- SERIAL[0..7] (R24). -/
  serial : Vector (Reg Byte) 8
  /-- Whether a READ_DEVINFO has completed since codec reset: before that a read of SERIAL is a fault (R24; log entry 27). -/
  devinfoDone : Bool
  /-- FWREV (R25). -/
  fwRev : Reg Byte
  /-- RAW (R26). -/
  raw : Reg MeasCode
  /-- RESULT (R27). -/
  result : Reg Bin64
  /-- WSTAT (R29). -/
  wstat : Reg Byte
  /-- REGBUF (R30). -/
  regBuf : Reg Byte
  /-- TXBUF[0..2] (R32). -/
  txBuf : Vector (Reg Byte) 3
  /-- TXLEN (R32). -/
  txLen : Reg Nat
  /-- RXBUF[0..7] (R33). -/
  rxBuf : Vector (Reg Byte) 8
  /-- RXLEN (R33). -/
  rxLen : Reg Nat
  /-- CRCREG (R34). -/
  crcReg : Reg Byte
  /-- The requests the host holds at the request port, the next one first (R83, R100). -/
  reqs : List ReqWord
  /-- The host's codec reset (R119, R280): true until the codec has taken it. -/
  resetIn : Bool
  /-- The status bytes the transport will answer the coming write phases with, the next one first (R101). -/
  writeAnswers : List Byte
  /-- What the transport will do with the coming read phases, the next one first (R101). -/
  readAnswers : List ReadAnswer
  /-- How many free values have been taken: the model's own field (log entry 9). -/
  freeCtr : Nat
  /-- The observation: every W, D and R event so far, in order (R114). -/
  trace : List Event
  deriving DecidableEq, Repr

/-- Why the machine stops with a fault. No instruction's meaning raises one. -/
inductive Fault where
  /-- Raised by the host's read of register `number` while it holds no value (R11, R36, R42, D12, I9), and of a SERIAL byte
  before the first READ_DEVINFO has completed (R24). Safe: the spec itself makes these reads faults, "never a zero". -/
  | noValue (number : Nat)
  deriving DecidableEq, Repr

/-- Why the machine refuses. -/
inductive Refusal where
  /-- Raised by an arm of `exec` whose instruction has no meaning yet; no arm is left in that state. Safe: it proves nothing. -/
  | notModelled (mnemonic : String)
  /-- Raised by the host's read of a reserved register number (R36, I10). Safe: the spec gives that read no meaning. -/
  | reservedRegister (number : Nat)
  deriving DecidableEq, Repr

/-- CAPS as R31 lays the capability parameters out. -/
def capsByte (p : Params) : Byte :=
  (if p.capChecksum then 0x01 else 0) ||| (if p.capDevinfo then 0x02 else 0) ||| (if p.capHeater then 0x04 else 0)

/-- A byte register that holds no value. -/
def byteUnwritten : Reg Byte := .unwritten 0

/-- The codec right after its reset (R42, R280) when built with the parameters `p`, with nothing at its ports and nothing
observed (log entries 8, 9, 11, 12, 13). -/
def State.resetWith (p : Params) : State where
  params := p
  seq := .idle
  devAddr := p.devAddr
  caps := capsByte p
  valid := false
  status := 0x00
  firstErr := .none
  serial := #v[byteUnwritten, byteUnwritten, byteUnwritten, byteUnwritten, byteUnwritten, byteUnwritten, byteUnwritten, byteUnwritten]
  devinfoDone := false
  fwRev := byteUnwritten
  raw := .unwritten 0
  result := .unwritten 0
  wstat := byteUnwritten
  regBuf := byteUnwritten
  txBuf := #v[byteUnwritten, byteUnwritten, byteUnwritten]
  txLen := .unwritten 0
  rxBuf := #v[byteUnwritten, byteUnwritten, byteUnwritten, byteUnwritten, byteUnwritten, byteUnwritten, byteUnwritten, byteUnwritten]
  rxLen := .unwritten 0
  crcReg := byteUnwritten
  reqs := []
  resetIn := false
  writeAnswers := []
  readAnswers := []
  freeCtr := 0
  trace := []

/-- The machine right after reset: `resetWith` at the model's own parameters (log entry 7). -/
def State.reset : State := State.resetWith Config.params

end Sys2Proof.Machine
end

