-- ==== Sys2Proof/Machine/Operands.lean ====
section
/-! DEFINITION. Host arguments, response fields and the field packer (R75, R76, R77, R153, R181, R190). -/

namespace Sys2Proof.Machine

/-- `INSERT(old, mask, val)` (R190). -/
def insertField (old mask val : Byte) : Byte := (old &&& ~~~mask) ||| (val &&& mask)

/-- The heater-enable mask of the configuration register (R191, R193). -/
def maskHeaterEn : Byte := 0x04

/-- The level mask of the heater register (R192, R194). -/
def maskHeaterLevel : Byte := 0x0F

/-- SET_HEATER_EN's argument: state = ARG[0] (R75). -/
def argState (arg : Byte) : Bool := arg.getLsbD 0

/-- SET_HEATER_PWR's argument: level = ARG & 0xF (R75). -/
def argLevel (arg : Byte) : Byte := arg &&& 0x0F

/-- The data byte of 0xE6 (R76, R193). -/
def heaterEnData (old arg : Byte) : Byte := insertField old maskHeaterEn (if argState arg then 0x04 else 0x00)

/-- The data byte of 0x51 (R76, R194). -/
def heaterPwrData (old arg : Byte) : Byte := insertField old maskHeaterLevel (argLevel arg)

/-- `PACK_BE16(b0, b1)` (R153): b0, the first byte received, is the high byte. -/
def packBe16 (b0 b1 : Byte) : MeasCode := (b0.setWidth 16 <<< 8) ||| b1.setWidth 16

/-- `DEINTERLEAVE4` on RXBUF (R181): the bytes at the even positions, in received order. -/
def deinterleave4 (rx : Vector (Reg Byte) 8) : Byte × Byte × Byte × Byte :=
  (rx[0].val, rx[2].val, rx[4].val, rx[6].val)

end Sys2Proof.Machine
end

