-- ==== Sys2Proof/Machine/Flags.lean ====
section
/-! DEFINITION. The codec's flags (R41): the fields of STATUS (R28), what acceptance and completion make of them (R100, R112),
and the error codes (R251). -/

namespace Sys2Proof.Machine

/-- The three-bit code of an error (R251). -/
def ErrCode.code : ErrCode → BitVec 3
  | .none => 0
  | .busWrite => 1
  | .configMismatch => 2
  | .illegalOp => 3
  | .capDisabled => 4

/-- STATUS.BUSY, bit 0 (R28). -/
def statusBusy (b : Byte) : Bool := b.getLsbD 0

/-- STATUS.DONE, bit 1 (R28). -/
def statusDone (b : Byte) : Bool := b.getLsbD 1

/-- STATUS.OK, bit 2 (R28). -/
def statusOk (b : Byte) : Bool := b.getLsbD 2

/-- STATUS.ERR, bits 6:4 (R28). -/
def statusErr (b : Byte) : BitVec 3 := b.extractLsb' 4 3

/-- STATUS at acceptance: BUSY <- 1, DONE <- 0, every other bit kept (R100). -/
def statusAccept (b : Byte) : Byte := (b ||| 0x01) &&& 0xFD

/-- STATUS at completion: BUSY <- 0, DONE <- 1, OK <- ok, ERR <- err, bits 3 and 7 kept (R112). -/
def statusComplete (ok : Bool) (err : ErrCode) (b : Byte) : Byte :=
  (b &&& 0x88) ||| 0x02 ||| (if ok then 0x04 else 0x00) ||| (err.code.setWidth 8 <<< 4)

/-- Whether a write status is success (R29, R107). -/
def writeOk (st : Byte) : Bool := st == 0

/-- FIRSTERR after a write phase with status `st`: BUS_WRITE when the phase failed and no error was recorded yet (R104, R107). -/
def noteWrite (st : Byte) (first : ErrCode) : ErrCode :=
  if writeOk st then first else if first = .none then .busWrite else first

end Sys2Proof.Machine
end

