-- ==== Sys2Proof/Machine/Ops.lean ====
section
/-! DEFINITION. The named operations over the state: single-register updates, the ports (R101, R102), acceptance and completion
(R100, R112, R118), the transaction engine (R103 to R111) and the codec reset (R280). The codec has no exceptions (R250): an
error is what `State.complete` writes into STATUS. -/

namespace Sys2Proof.Machine

/-! ## Single-register updates -/

/-- SEQ <- q. -/
def State.setSeq (s : State) (q : Seq) : State := { s with seq := q }

/-- STATUS <- b. -/
def State.setStatus (s : State) (b : Byte) : State := { s with status := b }

/-- FIRSTERR <- e. -/
def State.setFirstErr (s : State) (e : ErrCode) : State := { s with firstErr := e }

/-- WSTAT <- st. -/
def State.setWstat (s : State) (st : Byte) : State := { s with wstat := .of st }

/-- REGBUF <- b. -/
def State.setRegBuf (s : State) (b : Byte) : State := { s with regBuf := .of b }

/-- RAW <- code, RESULT <- value, in one step (R27, R40). -/
def State.setMeasurement (s : State) (code : MeasCode) (value : Bin64) : State :=
  { s with raw := .of code, result := .of value }

/-- CRCREG holds what the validation left in it, VALID its result (R211, R213; log entry 18). -/
def State.setValidation (s : State) (crc : Byte) (ok : Bool) : State := { s with crcReg := .of crc, valid := ok }

/-- SERIAL[0..3] <- the four bytes (R180). -/
def State.setSerialLow (s : State) (d : Byte × Byte × Byte × Byte) : State :=
  { s with serial := #v[.of d.1, .of d.2.1, .of d.2.2.1, .of d.2.2.2, s.serial[4], s.serial[5], s.serial[6], s.serial[7]] }

/-- SERIAL[4..7] <- the four bytes (R180). -/
def State.setSerialHigh (s : State) (d : Byte × Byte × Byte × Byte) : State :=
  { s with serial := #v[s.serial[0], s.serial[1], s.serial[2], s.serial[3], .of d.1, .of d.2.1, .of d.2.2.1, .of d.2.2.2] }

/-- A READ_DEVINFO has completed (R24). -/
def State.setDevinfoDone (s : State) : State := { s with devinfoDone := true }

/-- FWREV <- b. -/
def State.setFwRev (s : State) (b : Byte) : State := { s with fwRev := .of b }

/-- TXBUF with its first bytes replaced (R104); the bytes past the frame stay (log entry 22). -/
def putTx (old : Vector (Reg Byte) 3) : List Byte → Vector (Reg Byte) 3
  | [] => old
  | [a] => #v[.of a, old[1], old[2]]
  | [a, b] => #v[.of a, .of b, old[2]]
  | a :: b :: c :: _ => #v[.of a, .of b, .of c]

/-- TXBUF[0..len-1] <- cmd, TXLEN <- len (R104). -/
def State.loadTx (s : State) (cmd : List Byte) : State :=
  { s with txBuf := putTx s.txBuf cmd, txLen := .of cmd.length }

/-- Byte `i` of RXBUF when it holds exactly the bytes `bs`: no value past their end (R33). -/
def rxReg (bs : List Byte) (i : Nat) : Reg Byte :=
  match bs[i]? with
  | some b => .of b
  | none => byteUnwritten

/-- RXBUF holding exactly the bytes `bs`. -/
def rxOf (bs : List Byte) : Vector (Reg Byte) 8 :=
  #v[rxReg bs 0, rxReg bs 1, rxReg bs 2, rxReg bs 3, rxReg bs 4, rxReg bs 5, rxReg bs 6, rxReg bs 7]

/-- RXLEN <- the length, RXBUF[0..RXLEN-1] <- bs, no value above (R33, R104). -/
def State.loadRx (s : State) (bs : List Byte) : State :=
  { s with rxBuf := rxOf bs, rxLen := .of bs.length }

/-- Append one event to the observation (R114). -/
def State.record (s : State) (e : Event) : State := { s with trace := s.trace ++ [e] }

/-- TXBUF[0..TXLEN-1], the bytes a write phase sends (R32, R105). -/
def State.txFrame (s : State) : List Byte := (s.txBuf.toList.take s.txLen.val).map Reg.val

/-! ## The bus-transport port (R101) -/

/-- The status the coming write phase returns: the transport's next answer, or a free value when the state lists none (log
entry 8). -/
def State.nextStatus (s : State) : Byte :=
  match s.writeAnswers with
  | st :: _ => st
  | [] => Config.busStatus s.freeCtr

/-- Use up that status. -/
def State.takeStatus (s : State) : State :=
  { s with writeAnswers := s.writeAnswers.tail, freeCtr := s.freeCtr + 1 }

/-- `n` bytes: those given, in order, and `free k` for the `k`-th of the rest. -/
def fillBytes (free : Nat → Byte) : Nat → Nat → List Byte → List Byte
  | 0, _, _ => []
  | n + 1, k, [] => free k :: fillBytes free n (k + 1) []
  | n + 1, k, b :: bs => b :: fillBytes free n (k + 1) bs

/-- What the coming read phase of `n` bytes returns: exactly `n` bytes, or none when it never returns (R101, R109). Bytes the
state lists no answer for are free values (log entries 8, 10, 24). -/
def State.nextBytes (s : State) (n : Nat) : Option (List Byte) :=
  match s.readAnswers with
  | .hang :: _ => none
  | .bytes bs :: _ => some (fillBytes Config.busByte n s.freeCtr bs)
  | [] => some (fillBytes Config.busByte n s.freeCtr [])

/-- Use up that answer. -/
def State.takeBytes (s : State) (n : Nat) : State :=
  { s with readAnswers := s.readAnswers.tail, freeCtr := s.freeCtr + n }

/-- The draw a skipped read of `n` bytes takes (R109, I4). -/
def State.drawBytes (s : State) (n : Nat) : List Byte := fillBytes Config.draw n s.freeCtr []

/-- Use up the `n` free values of a draw. -/
def State.takeDraw (s : State) (n : Nat) : State := { s with freeCtr := s.freeCtr + n }

/-! ## Acceptance and completion -/

/-- The request at the head of the port is taken off it, by a step that accepts it (R100). -/
def State.takeRequest (s : State) : State :=
  match s.seq with
  | .idle => { s with reqs := s.reqs.tail }
  | .busy _ => s

/-- The acceptance step up to dispatch (R100). OK and ERR keep their values. -/
def State.accept (s : State) (op : OpCode) (arg : Byte) : State :=
  ((s.setSeq (.busy ⟨op, arg, 0, .write⟩)).setFirstErr .none).setStatus (statusAccept s.status)

/-- `complete(ok, err)` (R112). -/
def State.complete (s : State) (ok : Bool) (err : ErrCode) : State :=
  (s.setStatus (statusComplete ok err s.status)).setSeq .idle

/-- `complete(FIRSTERR == NONE, FIRSTERR)` (R113). -/
def State.completeDefault (s : State) : State := s.complete (s.firstErr == .none) s.firstErr

/-- Acceptance with the capability check of dispatch (R118, cases 2 and 3). -/
def State.dispatch (s : State) (capability : Bool) (op : OpCode) (arg : Byte) : State :=
  if capability then s.accept op arg else (s.accept op arg).complete false .capDisabled

/-- The acceptance step of a request with a reserved OP (R78; R118, case 1): ILLEGAL_OP at once, and no register other than
STATUS changes (R78), so FIRSTERR stays (log entry 16). -/
def State.rejectRequest (s : State) : State := s.complete false .illegalOp

/-! ## The transaction engine -/

/-- A transaction (R103): the command bytes, the response length and the settle delay in milliseconds. -/
structure Transaction where
  cmd : List Byte
  n : Nat
  d : Nat
  deriving DecidableEq, Repr

/-- The hold flag (R106): a response is read and there is no settle delay. -/
def Transaction.hold (tx : Transaction) : Bool := decide (tx.n > 0) && decide (tx.d = 0)

/-- `ok` of the current transaction (R104): WSTAT holds the status of its write phase (R107; log entry 6). -/
def State.txOk (s : State) : Bool := writeOk s.wstat.val

/-- After the write phase and any settle phase: the READ phase when a response is read; otherwise RXLEN <- 0 and the DECODE
phase (R104; log entry 5). -/
def State.enterResponse (s : State) (tx : Transaction) (r : Running) : State :=
  if tx.n > 0 then s.setSeq (.busy { r with txph := .read })
  else (s.loadRx []).setSeq (.busy { r with txph := .decode })

/-- The WRITE phase (R104, R105, R107). -/
def State.writePhase (s : State) (tx : Transaction) (r : Running) : State :=
  let st := s.nextStatus
  let s1 := ((s.loadTx tx.cmd).takeStatus.setWstat st).setFirstErr (noteWrite st s.firstErr)
  let s2 := s1.record (.write s.devAddr s1.txFrame tx.hold st)
  if tx.d > 0 then s2.setSeq (.busy { r with txph := .settle }) else s2.enterResponse tx r

/-- The SETTLE phase (R102, R108): Delay(d) always ends, in this one step. -/
def State.settlePhase (s : State) (tx : Transaction) (r : Running) : State :=
  (s.record (.delay tx.d)).enterResponse tx r

/-- The READ phase (R109). A read that never returns leaves the codec as it is: BUSY for ever (R111, R254; log entry 10). -/
def State.readPhase (s : State) (tx : Transaction) (r : Running) : State :=
  if s.txOk || s.params.readOnWriteFail then
    match s.nextBytes tx.n with
    | some bs =>
      (((s.takeBytes tx.n).loadRx bs).record (.read s.devAddr tx.n bs)).setSeq (.busy { r with txph := .decode })
    | none => s
  else ((s.takeDraw tx.n).loadRx (s.drawBytes tx.n)).setSeq (.busy { r with txph := .decode })

/-- The codec's next step inside a transaction (R104, R114). The DECODE phase is the calling operation's, and while IDLE no
command runs, so there the command takes no step (log entry 17). -/
def State.runPhase (s : State) (tx : Transaction) : State :=
  match s.seq with
  | .idle => s
  | .busy r =>
    match r.txph with
    | .write => s.writePhase tx r
    | .settle => s.settlePhase tx r
    | .read => s.readPhase tx r
    | .decode => s

/-- USTEP one up, after a decode step (R115). -/
def ustepNext : Fin 4 → Fin 4
  | 0 => 1
  | 1 => 2
  | 2 => 3
  | 3 => 3

/-- The end of a decode step: the next transaction is current, its WRITE phase first (R115; log entry 4). -/
def State.advance (s : State) (r : Running) : State :=
  s.setSeq (.busy { r with ustep := ustepNext r.ustep, txph := .write })

/-! ## The codec reset -/

/-- Whether the codec is in a READ phase that issues its read and whose answer is a hang (R109, R111). -/
def State.hungRead (s : State) : Bool :=
  match s.seq with
  | .idle => false
  | .busy r => r.txph == .read && (s.txOk || s.params.readOnWriteFail) && s.readAnswers.head? == some .hang

/-- The answers that stand at the read port after a codec reset. A reset out of a hanging read uses up that read's answer, so that
the next read has an answer of its own, which may be a hang again. DESIGN CHOICE: R101, N7 and I17 leave open whether the next
read hangs (log entry 12). -/
def State.answersAfterReset (s : State) : List ReadAnswer := if s.hungRead then s.readAnswers.tail else s.readAnswers

/-- The codec reset (R280): every register to R42, no event. What stands at the ports and what was observed stay, but for the
answer of a hanging read; the host's reset input is taken. DESIGN CHOICE: log entry 12. -/
def State.codecReset (s : State) : State :=
  { State.resetWith s.params with
    reqs := s.reqs, writeAnswers := s.writeAnswers, readAnswers := s.answersAfterReset, freeCtr := s.freeCtr
    trace := s.trace }

end Sys2Proof.Machine
end

