-- ==== Sys2Proof/Machine/Wire.lean ====
section
/-! DEFINITION. The eleven wire commands (spec/46_wire_commands.md). Each fixes its transaction (R72, R103), and its meaning is
the codec's next step in that transaction: the WRITE, SETTLE or READ phase that TXPH names (R104). -/

namespace Sys2Proof.Machine

/-- Length of a measurement response: 3 with CAP_CHECKSUM, 2 without (R72, R82). -/
def measLength (p : Params) : Nat := if p.capChecksum then 3 else 2

/-- The transaction of MEAS_RH_NOHOLD (R230). -/
def txMeasRh (p : Params) : Transaction := ⟨[0xF5], measLength p, Config.tMeasMs⟩
/-- The transaction of MEAS_T_NOHOLD (R231). -/
def txMeasT (p : Params) : Transaction := ⟨[0xF3], measLength p, Config.tMeasMs⟩
/-- The transaction of READ_PREV_T (R232). -/
def txReadPrevT : Transaction := ⟨[0xE0], 2, 0⟩
/-- The transaction of DEV_RESET (R233). -/
def txDevReset : Transaction := ⟨[0xFE], 0, Config.tResetMs⟩
/-- The transaction of WRITE_USER_REG (R234). -/
def txWriteUserReg (v : Byte) : Transaction := ⟨[0xE6, v], 0, 0⟩
/-- The transaction of READ_USER_REG (R235). -/
def txReadUserReg : Transaction := ⟨[0xE7], 1, 0⟩
/-- The transaction of WRITE_HEATER_REG (R236). -/
def txWriteHeaterReg (v : Byte) : Transaction := ⟨[0x51, v], 0, 0⟩
/-- The transaction of READ_HEATER_REG (R237). -/
def txReadHeaterReg : Transaction := ⟨[0x11], 1, 0⟩
/-- The transaction of READ_SN_PART1 (R238). -/
def txReadSnPart1 : Transaction := ⟨[0xFA, 0x0F], 8, 0⟩
/-- The transaction of READ_SN_PART2 (R239). -/
def txReadSnPart2 : Transaction := ⟨[0xFC, 0xC9], 8, 0⟩
/-- The transaction of READ_FWREV (R240). -/
def txReadFwrev : Transaction := ⟨[0x84, 0xB8], 1, 0⟩

/-- MEAS_RH_NOHOLD (R230). -/
def execMeasRhNohold (s : State) : Host.Outcome State Fault Refusal := .next (s.runPhase (txMeasRh s.params))
/-- MEAS_T_NOHOLD (R231). -/
def execMeasTNohold (s : State) : Host.Outcome State Fault Refusal := .next (s.runPhase (txMeasT s.params))
/-- READ_PREV_T (R232). -/
def execReadPrevT (s : State) : Host.Outcome State Fault Refusal := .next (s.runPhase txReadPrevT)
/-- DEV_RESET (R233). -/
def execDevReset (s : State) : Host.Outcome State Fault Refusal := .next (s.runPhase txDevReset)
/-- WRITE_USER_REG (R234). -/
def execWriteUserReg (v : Byte) (s : State) : Host.Outcome State Fault Refusal := .next (s.runPhase (txWriteUserReg v))
/-- READ_USER_REG (R235). -/
def execReadUserReg (s : State) : Host.Outcome State Fault Refusal := .next (s.runPhase txReadUserReg)
/-- WRITE_HEATER_REG (R236). -/
def execWriteHeaterReg (v : Byte) (s : State) : Host.Outcome State Fault Refusal := .next (s.runPhase (txWriteHeaterReg v))
/-- READ_HEATER_REG (R237). -/
def execReadHeaterReg (s : State) : Host.Outcome State Fault Refusal := .next (s.runPhase txReadHeaterReg)
/-- READ_SN_PART1 (R238). -/
def execReadSnPart1 (s : State) : Host.Outcome State Fault Refusal := .next (s.runPhase txReadSnPart1)
/-- READ_SN_PART2 (R239). -/
def execReadSnPart2 (s : State) : Host.Outcome State Fault Refusal := .next (s.runPhase txReadSnPart2)
/-- READ_FWREV (R240). -/
def execReadFwrev (s : State) : Host.Outcome State Fault Refusal := .next (s.runPhase txReadFwrev)

end Sys2Proof.Machine
end

