-- ==== Sys2Proof/Machine/Sequencer.lean ====
section
/-! DEFINITION. The sequencer (R21, R115 to R118): the transactions of each operation, whose turn it is in a running request,
what the codec fetches, and how an operation takes its own steps. -/

namespace Sys2Proof.Machine

/-- The transaction of an operation at a USTEP (R116), with the data byte the packer computes from REGBUF and ARG (R76); none
past the end of the sequence. -/
def opTransaction (p : Params) (op : OpCode) (arg old : Byte) (ustep : Fin 4) : Option Transaction :=
  match op.toNat, ustep.val with
  | 0x1, 0 => some txDevReset
  | 0x1, 1 => some txReadUserReg
  | 0x2, 0 => some (txMeasRh p)
  | 0x3, 0 => some (txMeasT p)
  | 0x4, 0 => some txReadPrevT
  | 0x5, 0 => some txDevReset
  | 0x6, 0 => some txReadSnPart1
  | 0x6, 1 => some txReadSnPart2
  | 0x6, 2 => some txReadFwrev
  | 0x7, 0 => some txReadUserReg
  | 0x7, 1 => some (txWriteUserReg (heaterEnData old arg))
  | 0x8, 0 => some txReadHeaterReg
  | 0x8, 1 => some (txWriteHeaterReg (heaterPwrData old arg))
  | _, _ => none

/-- The transaction current in a running request. -/
def State.currentTx (s : State) (r : Running) : Option Transaction :=
  opTransaction s.params r.op r.arg s.regBuf.val r.ustep

/-- Whose step is next in a running request (R114). -/
inductive Turn where
  /-- A phase of this transaction on the bus or the timer. -/
  | bus (tx : Transaction)
  /-- The operation's decode step. -/
  | decode
  /-- The operation's completion. -/
  | finish
  deriving DecidableEq, Repr

/-- BEGIN stops before its second transaction when its first one failed (R115, R131; log entry 4). -/
def beginStops (s : State) (r : Running) : Bool :=
  r.op == opBegin && r.ustep == 1 && s.firstErr != .none

/-- The turn (R114 to R116): a phase of the current transaction, its decode step, or completion when none is left. -/
def State.turn (s : State) (r : Running) : Turn :=
  match s.currentTx r with
  | none => .finish
  | some tx =>
    match r.txph with
    | .write => if beginStops s r then .finish else .bus tx
    | .settle => .bus tx
    | .read => .bus tx
    | .decode => .decode

/-- The steps an operation takes itself: its acceptance while IDLE, and while it is the one running its decode steps and its
completion. Anything else takes no step for it: a request is not accepted while BUSY, and in the phases of a transaction
the wire command steps (R100, R104, R114; log entries 1 and 17). -/
def State.hostOp (s : State) (capability : Bool) (op : OpCode) (arg : Byte) (decodeStep finish : Running → State → State) :
    State :=
  match s.seq with
  | .idle => s.dispatch capability op arg
  | .busy r =>
    if r.op = op ∧ r.arg = arg then
      match s.turn r with
      | .bus _ => s
      | .decode => (decodeStep r s).advance r
      | .finish => finish r s
    else s

/-- The code the codec fetches next: while IDLE the request at the port; while BUSY the command bytes of the current
transaction in its bus phases, and the running request OP:ARG for the operation's own steps. None while IDLE with no request
(R114). -/
def State.fetchCode (s : State) : Option Code :=
  match s.seq with
  | .idle => s.reqs.head?.map .request
  | .busy r =>
    match s.turn r with
    | .bus tx => some (.frame tx.cmd)
    | .decode => some (.request (reqWord r.op r.arg))
    | .finish => some (.request (reqWord r.op r.arg))

/-- What the next step runs. -/
inductive Fetched where
  /-- The host's codec reset, at any time (R280). -/
  | codecReset
  /-- Nothing: IDLE and no request offered. -/
  | nothing
  /-- An instruction. -/
  | instr (i : Instr)
  /-- A request whose OP is reserved. -/
  | reserved (op : OpCode) (arg : Byte)
  deriving DecidableEq, Repr

/-- Fetch and decode. A frame of R116's table always decodes, so a code that does not is a request with a reserved OP. -/
def State.fetch (s : State) : Fetched :=
  if s.resetIn then .codecReset
  else
    match s.fetchCode with
    | none => .nothing
    | some c =>
      match decode c, c with
      | .ok i, _ => .instr i
      | .error _, .request w => .reserved (reqOp w) (reqArg w)
      | .error _, .frame _ => .nothing

/-- Where the sequencer runs a wire command: OP, ARG, USTEP and the REGBUF the data byte is packed from (R116, R76). -/
def wireSlot : Instr → Option (OpCode × Byte × Fin 4 × Option Byte)
  | .wireMeasRhNohold => some (opReadRh, 0, 0, none)
  | .wireMeasTNohold => some (opReadT, 0, 0, none)
  | .wireReadPrevT => some (opReadLastT, 0, 0, none)
  | .wireDevReset => some (opReset, 0, 0, none)
  | .wireWriteUserReg v => some (opSetHeaterEn, if v.getLsbD 2 then 1 else 0, 1, some v)
  | .wireReadUserReg => some (opSetHeaterEn, 0, 0, none)
  | .wireWriteHeaterReg v => some (opSetHeaterPwr, v, 1, some v)
  | .wireReadHeaterReg => some (opSetHeaterPwr, 0, 0, none)
  | .wireReadSnPart1 => some (opReadDevinfo, 0, 0, none)
  | .wireReadSnPart2 => some (opReadDevinfo, 0, 1, none)
  | .wireReadFwrev => some (opReadDevinfo, 0, 2, none)
  | .reqBegin _ => none
  | .reqReadRh _ => none
  | .reqReadT _ => none
  | .reqReadLastT _ => none
  | .reqReset _ => none
  | .reqReadDevinfo _ => none
  | .reqSetHeaterEn _ => none
  | .reqSetHeaterPwr _ => none

/-- The state whose next step fetches the code `c`: a request stands at the head of the port of an IDLE codec; a frame is the
command of the transaction whose WRITE phase is next, in a request of the operation that issues it (log entry 11). -/
def State.place (s : State) (c : Code) : State :=
  match c with
  | .request w => { s with resetIn := false, seq := .idle, reqs := w :: s.reqs }
  | .frame bs =>
    match decodeFrame bs with
    | .error _ => s
    | .ok i =>
      match wireSlot i with
      | none => s
      | some (op, arg, ustep, old) =>
        let a := s.accept op arg
        { a with
          resetIn := false
          seq := .busy ⟨op, arg, ustep, .write⟩
          regBuf := match old with
            | some v => .of v
            | none => a.regBuf }

end Sys2Proof.Machine
end

