-- ==== Sys2Proof/Machine/Heater.lean ====
section
/-! DEFINITION. SET_HEATER_EN and SET_HEATER_PWR (spec/44_config_heater.md). The data byte of the write-back is packed from
REGBUF and ARG when the second transaction starts (`opTransaction`). -/

namespace Sys2Proof.Machine

/-- The decode steps of both heater operations: the first takes the register byte into REGBUF, the second reads nothing
(R193, R194). -/
def decodeHeater (r : Running) (s : State) : State :=
  if r.ustep = 0 then s.setRegBuf s.rxBuf[0].val else s

/-- SET_HEATER_EN (R193), with dispatch's check of CAP_HEATER (R118). -/
def execSetHeaterEn (arg : Byte) (s : State) : Host.Outcome State Fault Refusal :=
  .next (s.hostOp s.params.capHeater opSetHeaterEn arg decodeHeater (fun _ t => t.completeDefault))

/-- SET_HEATER_PWR (R194), with dispatch's check of CAP_HEATER (R118). -/
def execSetHeaterPwr (arg : Byte) (s : State) : Host.Outcome State Fault Refusal :=
  .next (s.hostOp s.params.capHeater opSetHeaterPwr arg decodeHeater (fun _ t => t.completeDefault))

end Sys2Proof.Machine
end

