-- ==== Sys2Proof/Machine/Identity.lean ====
section
/-! DEFINITION. READ_DEVINFO (spec/43_identity.md). -/

namespace Sys2Proof.Machine

/-- READ_DEVINFO's three decode steps (R180, R181): the first half, the second half, the revision. No checksum is validated
(R182). -/
def decodeReadDevinfo (r : Running) (s : State) : State :=
  if r.ustep = 0 then s.setSerialLow (deinterleave4 s.rxBuf)
  else if r.ustep = 1 then s.setSerialHigh (deinterleave4 s.rxBuf)
  else s.setFwRev s.rxBuf[0].val

/-- READ_DEVINFO's completion: by default (R113, R180), after which SERIAL may be read (R24). -/
def finishReadDevinfo (_r : Running) (s : State) : State := s.completeDefault.setDevinfoDone

/-- READ_DEVINFO (R180), with dispatch's check of CAP_DEVINFO (R118). -/
def execReadDevinfo (arg : Byte) (s : State) : Host.Outcome State Fault Refusal :=
  .next (s.hostOp s.params.capDevinfo opReadDevinfo arg decodeReadDevinfo finishReadDevinfo)

end Sys2Proof.Machine
end

