-- ==== Sys2Proof/Machine/InitReset.lean ====
section
/-! DEFINITION. RESET and BEGIN (spec/41_init_reset.md). -/

namespace Sys2Proof.Machine

/-- RESET's completion: OK is whether the write succeeded (R130). -/
def finishReset (_r : Running) (s : State) : State := s.complete s.txOk s.firstErr

/-- RESET (R130). Its transaction reads nothing, so its decode step reads nothing. -/
def execReset (arg : Byte) (s : State) : Host.Outcome State Fault Refusal :=
  .next (s.hostOp true opReset arg (fun _ t => t) finishReset)

/-- BEGIN's decode steps: the second one takes the register byte into REGBUF (R131). -/
def decodeBegin (r : Running) (s : State) : State :=
  if r.ustep = 1 then s.setRegBuf s.rxBuf[0].val else s

/-- Whether the byte read makes BEGIN fail, by variant (R131, R132). -/
def beginFatal (variant : BeginVariant) (readOk : Bool) (regbuf : Byte) : Bool :=
  match variant with
  | .checkRead => readOk && (regbuf != Config.cfgDefault)
  | .ignoreRead => regbuf != Config.cfgDefault

/-- BEGIN's completion (R131): BUS_WRITE when the reset write failed; otherwise by the comparison, the first error winning over
CONFIG_MISMATCH (R255). -/
def finishBegin (r : Running) (s : State) : State :=
  if beginStops s r then s.complete false .busWrite
  else if beginFatal s.params.beginVariant s.txOk s.regBuf.val then
    s.complete false (if s.firstErr = .none then .configMismatch else s.firstErr)
  else s.complete true s.firstErr

/-- BEGIN (R131). -/
def execBegin (arg : Byte) (s : State) : Host.Outcome State Fault Refusal :=
  .next (s.hostOp true opBegin arg decodeBegin finishBegin)

end Sys2Proof.Machine
end

