-- ==== Sys2Proof/Machine/Binary64.lean ====
section
/-! DEFINITION. The result decoder's arithmetic: IEEE 754 binary64 on bit patterns, each operation computed exactly and then
rounded to nearest, ties to even (R11, R154 to R158; log entry 19). -/

namespace Sys2Proof.Machine

/-- An exact binary fraction: `num * 2 ^ exp`. -/
structure BinFrac where
  num : Int
  exp : Int
  deriving DecidableEq, Repr

/-- The exact value of a finite binary64 pattern; a zero is `0 * 2 ^ 0`. -/
def fracOf (b : Bin64) : BinFrac :=
  let frac : Nat := b.toNat % 2 ^ 52
  let expo : Nat := (b.toNat / 2 ^ 52) % 2 ^ 11
  let mag : Nat := if expo = 0 then frac else 2 ^ 52 + frac
  let exp : Int := if mag = 0 then 0 else if expo = 0 then -1074 else (expo : Int) - 1075
  ⟨if b.getLsbD 63 then -(mag : Int) else (mag : Int), exp⟩

/-- `m / 2 ^ k` rounded to the nearest integer, ties to even. -/
def shiftRne (m k : Nat) : Nat :=
  let q := m / 2 ^ k
  let r := m % 2 ^ k
  if 2 * r < 2 ^ k then q
  else if 2 * r = 2 ^ k then q + q % 2
  else q + 1

/-- The exponent of the last place of a binary64 whose magnitude is `m * 2 ^ e`, `m` nonzero. -/
def quantumExp (m : Nat) (e : Int) : Int := max ((Nat.log2 m : Int) + e - 52) (-1074)

/-- `m * 2 ^ e` in units of the last place, rounded to nearest, ties to even. -/
def significand (m : Nat) (e : Int) : Nat :=
  let q := quantumExp m e
  if q ≤ e then m * 2 ^ (e - q).toNat else shiftRne m (q - e).toNat

/-- The magnitude bits of `m * 2 ^ e` rounded: the biased exponent and the fraction, so that a carry out of the fraction moves
into the exponent; past the largest finite value, infinity. -/
def magnitudeBits (m : Nat) (e : Int) : Nat :=
  if m = 0 then 0
  else min ((quantumExp m e + 1074).toNat * 2 ^ 52 + significand m e) (0x7FF * 2 ^ 52)

/-- `fl64` of an exact value (R11): round to nearest, ties to even. An exact zero is +0. -/
def roundBin64 (d : BinFrac) : Bin64 :=
  BitVec.ofNat 64 ((if d.num < 0 then 2 ^ 63 else 0) + magnitudeBits d.num.natAbs d.exp)

/-- The exact product. -/
def fracMul (a b : BinFrac) : BinFrac := ⟨a.num * b.num, a.exp + b.exp⟩

/-- A numerator at the lower exponent `e`. -/
def fracAt (a : BinFrac) (e : Int) : Int := a.num * ((2 ^ (a.exp - e).toNat : Nat) : Int)

/-- The exact difference. -/
def fracSub (a b : BinFrac) : BinFrac :=
  let e := min a.exp b.exp
  ⟨fracAt a e - fracAt b e, e⟩

/-- Whether one exact value is below another. -/
def fracLt (a b : BinFrac) : Bool :=
  let e := min a.exp b.exp
  fracAt a e < fracAt b e

/-- `fl64(a * b)`. -/
def mulBin64 (a b : Bin64) : Bin64 := roundBin64 (fracMul (fracOf a) (fracOf b))

/-- `fl64(a / 65536)`: the exact quotient by 2^16 has its exponent lowered by 16. -/
def div65536Bin64 (a : Bin64) : Bin64 :=
  let d := fracOf a
  roundBin64 ⟨d.num, d.exp - 16⟩

/-- `fl64(a - b)`. -/
def subBin64 (a b : Bin64) : Bin64 := roundBin64 (fracSub (fracOf a) (fracOf b))

/-- Whether a finite binary64 is below another. -/
def ltBin64 (a b : Bin64) : Bool := fracLt (fracOf a) (fracOf b)

/-- A measurement code as a binary64 (R154, R157: exact). -/
def bin64OfCode (raw : MeasCode) : Bin64 := roundBin64 ⟨(raw.toNat : Int), 0⟩

/-- 125 in binary64 (R154). -/
def bin64Of125 : Bin64 := roundBin64 ⟨125, 0⟩

/-- 6 in binary64 (R154). -/
def bin64Of6 : Bin64 := roundBin64 ⟨6, 0⟩

/-- 0.0 (R155). -/
def bin64Of0 : Bin64 := 0x0000000000000000

/-- 100.0 (R155). -/
def bin64Of100 : Bin64 := roundBin64 ⟨100, 0⟩

/-- `CONV_RH(raw)` (R154), left to right as the source writes it; the whole code, no bit masked (R160). -/
def convRh (raw : MeasCode) : Bin64 :=
  subBin64 (div65536Bin64 (mulBin64 (bin64OfCode raw) bin64Of125)) bin64Of6

/-- `max` in binary64 (R155). -/
def maxBin64 (a b : Bin64) : Bin64 := if ltBin64 a b then b else a

/-- `min` in binary64 (R155). -/
def minBin64 (a b : Bin64) : Bin64 := if ltBin64 b a then b else a

/-- `CLAMP_RH(h)` (R155). -/
def clampRh (h : Bin64) : Bin64 := minBin64 (maxBin64 h bin64Of0) bin64Of100

/-- `CONV_T(raw)` (R156), left to right, with the constants of R157. -/
def convT (raw : MeasCode) : Bin64 :=
  subBin64 (div65536Bin64 (mulBin64 (bin64OfCode raw) Config.k1)) Config.k2

end Sys2Proof.Machine
end

