-- ==== Sys2Proof/Machine/Checksum.lean ====
section
/-! DEFINITION. The LFSR checksum validator (spec/45_checksum.md; not reflected, 90_conflicts.md C1). -/

namespace Sys2Proof.Machine

/-- One round of R211 on the 9-bit intermediate: shift left, and XOR with 0x131 when the top bit was set. -/
def crcRound (crc : Byte) : Byte :=
  let shifted : BitVec 9 := crc.setWidth 9 <<< 1
  if crc.getLsbD 7 then (shifted ^^^ 0x131).setWidth 8 else shifted.setWidth 8

/-- `k` rounds. -/
def crcRounds : Nat → Byte → Byte
  | 0, crc => crc
  | k + 1, crc => crcRounds k (crcRound crc)

/-- XOR one data byte in, then eight rounds (R211). -/
def crcByte (crc b : Byte) : Byte := crcRounds 8 (crc ^^^ b)

/-- CRCREG after the bytes, in received order, from 0 (R211). -/
def crc8 (bs : List Byte) : Byte := bs.foldl crcByte 0x00

/-- `CRC_OK(b0, b1, c)` (R213). -/
def crcOk (b0 b1 c : Byte) : Bool := crc8 [b0, b1] == c

/-- One shift of the bit-serial register (R212). -/
def crcBit (crc : Byte) (bit : Bool) : Byte :=
  let shifted := crc <<< 1
  if crc.getLsbD 7 != bit then shifted ^^^ 0x31 else shifted

/-- The eight bits of a byte, most significant first (R212). -/
def bitsMsbFirst (b : Byte) : List Bool :=
  [b.getLsbD 7, b.getLsbD 6, b.getLsbD 5, b.getLsbD 4, b.getLsbD 3, b.getLsbD 2, b.getLsbD 1, b.getLsbD 0]

/-- The bit-serial form over bytes (R212). -/
def crc8Serial (bs : List Byte) : Byte := (bs.flatMap bitsMsbFirst).foldl crcBit 0x00

end Sys2Proof.Machine
end

