-- ==== Sys2Proof/Machine/Measure.lean ====
section
/-! DEFINITION. READ_RH, READ_T and READ_LAST_T (spec/42_measurement.md). -/

namespace Sys2Proof.Machine

/-- The code of an M2 or M3 response (R77, R153). -/
def State.rxCode (s : State) : MeasCode := packBe16 s.rxBuf[0].val s.rxBuf[1].val

/-- Validate an M3 response: VALID <- CRC_OK over the two data bytes and the checksum byte, only with CAP_CHECKSUM (R213, R214,
R215). -/
def State.validate (s : State) : State :=
  if s.params.capChecksum then
    s.setValidation (crc8 [s.rxBuf[0].val, s.rxBuf[1].val]) (crcOk s.rxBuf[0].val s.rxBuf[1].val s.rxBuf[2].val)
  else s

/-- READ_RH's decode step (R150): RAW and the clamped RESULT are written whatever the checksum says (R159). -/
def decodeReadRh (_r : Running) (s : State) : State :=
  (s.setMeasurement s.rxCode (clampRh (convRh s.rxCode))).validate

/-- READ_RH (R150). -/
def execReadRh (arg : Byte) (s : State) : Host.Outcome State Fault Refusal :=
  .next (s.hostOp true opReadRh arg decodeReadRh (fun _ t => t.completeDefault))

/-- READ_T's decode step (R151): no clamp (R158). -/
def decodeReadT (_r : Running) (s : State) : State := (s.setMeasurement s.rxCode (convT s.rxCode)).validate

/-- READ_T (R151). -/
def execReadT (arg : Byte) (s : State) : Host.Outcome State Fault Refusal :=
  .next (s.hostOp true opReadT arg decodeReadT (fun _ t => t.completeDefault))

/-- READ_LAST_T's decode step (R152): VALID is not written (D11). -/
def decodeReadLastT (_r : Running) (s : State) : State := s.setMeasurement s.rxCode (convT s.rxCode)

/-- READ_LAST_T (R152). -/
def execReadLastT (arg : Byte) (s : State) : Host.Outcome State Fault Refusal :=
  .next (s.hostOp true opReadLastT arg decodeReadLastT (fun _ t => t.completeDefault))

end Sys2Proof.Machine
end

