-- ==== Sys2Proof/Machine/Dispatch.lean ====
section
/-! DEFINITION. One arm per instruction, each one call of its meaning. -/

namespace Sys2Proof.Machine

def exec (i : Instr) (s : State) : Host.Outcome State Fault Refusal :=
  match i with
  | .reqBegin arg => Sys2Proof.Machine.execBegin arg s
  | .reqReadRh arg => Sys2Proof.Machine.execReadRh arg s
  | .reqReadT arg => Sys2Proof.Machine.execReadT arg s
  | .reqReadLastT arg => Sys2Proof.Machine.execReadLastT arg s
  | .reqReset arg => Sys2Proof.Machine.execReset arg s
  | .reqReadDevinfo arg => Sys2Proof.Machine.execReadDevinfo arg s
  | .reqSetHeaterEn arg => Sys2Proof.Machine.execSetHeaterEn arg s
  | .reqSetHeaterPwr arg => Sys2Proof.Machine.execSetHeaterPwr arg s
  | .wireMeasRhNohold => Sys2Proof.Machine.execMeasRhNohold s
  | .wireMeasTNohold => Sys2Proof.Machine.execMeasTNohold s
  | .wireReadPrevT => Sys2Proof.Machine.execReadPrevT s
  | .wireDevReset => Sys2Proof.Machine.execDevReset s
  | .wireWriteUserReg v => Sys2Proof.Machine.execWriteUserReg v s
  | .wireReadUserReg => Sys2Proof.Machine.execReadUserReg s
  | .wireWriteHeaterReg v => Sys2Proof.Machine.execWriteHeaterReg v s
  | .wireReadHeaterReg => Sys2Proof.Machine.execReadHeaterReg s
  | .wireReadSnPart1 => Sys2Proof.Machine.execReadSnPart1 s
  | .wireReadSnPart2 => Sys2Proof.Machine.execReadSnPart2 s
  | .wireReadFwrev => Sys2Proof.Machine.execReadFwrev s

end Sys2Proof.Machine
end

