-- ==== Sys2Proof/Machine/Step.lean ====
section
/-! DEFINITION. One step of the codec (R7, R114), and the placing of an instruction for the next step. -/

namespace Sys2Proof.Machine

/-- One step: the codec reset when the host applies it (R280); nothing while IDLE without a request (R114); a reserved request
answered (R78); otherwise the fetched instruction, its request taken off the port when it is accepted (R100). -/
def step (s : State) : Host.Outcome State Fault Refusal :=
  match s.fetch with
  | .codecReset => .next s.codecReset
  | .nothing => .next s
  | .reserved _ _ => .next s.takeRequest.rejectRequest
  | .instr i => exec i s.takeRequest

/-- The state `s` with the instruction of an opcode-table word standing where the next step fetches (log entry 11). -/
def State.withFetchWord (s : State) (nbits w : Nat) : State :=
  match tableCode nbits w with
  | some c => s.place c
  | none => s

end Sys2Proof.Machine
end

