-- ==== Sys2Proof/Machine/Assembler.lean ====
section
/-! DEFINITION. Request programs and bus traces as text: the request lines of R83 and the event lines of R84 (D19). Text is a
list of characters. -/

namespace Sys2Proof.Machine

/-! ## Request lines (R83) -/

/-- The request word of a line; none where a number is out of the range R83 gives. -/
def assemble (l : ReqLine) : Option ReqWord :=
  if l.wellFormed then
    match l with
    | .beginReq => some 0x100
    | .readRh => some 0x200
    | .readT => some 0x300
    | .readLastT => some 0x400
    | .resetReq => some 0x500
    | .readDevinfo => some 0x600
    | .setHeaterEn state => some (0x700 ||| BitVec.ofNat 12 state)
    | .setHeaterPwr imm => some (0x800 ||| BitVec.ofNat 12 imm)
    | .raw req => some (BitVec.ofNat 12 req)
  else none

/-- A line without its comment: what stands before the first `;`. -/
def dropComment : List Char → List Char
  | [] => []
  | c :: cs => if c = ';' then [] else c :: dropComment cs

/-- The words of a line, cut at spaces; `word` is the one being read, reversed. -/
def splitWords : List Char → List Char → List (List Char)
  | [], [] => []
  | [], word => [word.reverse]
  | c :: cs, word =>
    if c = ' ' then
      if word = [] then splitWords cs [] else word.reverse :: splitWords cs []
    else splitWords cs (c :: word)

/-- The value of a digit below `base`. -/
def digitValue (base : Nat) (c : Char) : Option Nat :=
  let v :=
    if '0' ≤ c ∧ c ≤ '9' then c.toNat - '0'.toNat
    else if 'a' ≤ c ∧ c ≤ 'f' then c.toNat - 'a'.toNat + 10
    else if 'A' ≤ c ∧ c ≤ 'F' then c.toNat - 'A'.toNat + 10
    else base
  if v < base then some v else none

/-- The number digits spell, after those already read. -/
def digitsValue (base : Nat) : List Char → Nat → Option Nat
  | [], acc => some acc
  | c :: cs, acc =>
    match digitValue base c with
    | some v => digitsValue base cs (acc * base + v)
    | none => none

/-- A number in decimal or with a 0x prefix. -/
def parseNumber : List Char → Option Nat
  | [] => none
  | '0' :: 'x' :: d :: ds => digitsValue 16 (d :: ds) 0
  | d :: ds => digitsValue 10 (d :: ds) 0

/-- The three hexadecimal digits of a raw request word. -/
def parseRaw : List Char → Option Nat
  | ['0', 'x', a, b, c] => digitsValue 16 [a, b, c] 0
  | _ => none

/-- A line of a request program; the outer none for a line that is not in the syntax of R83, `some none` for a line with
nothing but spaces and a comment. -/
def parseLine (text : List Char) : Option (Option ReqLine) :=
  match splitWords (dropComment text) [] with
  | [] => some none
  | [m] =>
    if m = "BEGIN".toList then some (some .beginReq)
    else if m = "READ_RH".toList then some (some .readRh)
    else if m = "READ_T".toList then some (some .readT)
    else if m = "READ_LAST_T".toList then some (some .readLastT)
    else if m = "RESET".toList then some (some .resetReq)
    else if m = "READ_DEVINFO".toList then some (some .readDevinfo)
    else none
  | [m, x] =>
    if m = "SET_HEATER_EN".toList then (parseNumber x).map fun n => some (.setHeaterEn n)
    else if m = "SET_HEATER_PWR".toList then (parseNumber x).map fun n => some (.setHeaterPwr n)
    else if m = ".req".toList then (parseRaw x).map fun n => some (.raw n)
    else none
  | _ => none

/-! ## Event lines (R84) -/

/-- A hexadecimal digit. -/
def hexDigit (n : Nat) : Char :=
  if n < 10 then Char.ofNat ('0'.toNat + n) else Char.ofNat ('A'.toNat + (n - 10))

/-- A byte as two hexadecimal digits. -/
def hexByte (b : Byte) : List Char := [hexDigit (b.toNat / 16), hexDigit (b.toNat % 16)]

/-- A bus address, as `0x40`. -/
def addrText (a : BusAddr) : List Char := '0' :: 'x' :: hexByte (a.setWidth 8)

/-- Bytes separated by spaces. -/
def bytesText : List Byte → List Char
  | [] => []
  | [b] => hexByte b
  | b :: bs => hexByte b ++ ' ' :: bytesText bs

/-- A number in decimal. -/
def decimalText (n : Nat) : List Char := Nat.toDigits 10 n

/-- The line of an event. -/
def Event.text : Event → List Char
  | .write addr bytes hold st =>
    "W ".toList ++ addrText addr ++ " [".toList ++ bytesText bytes ++ "] hold=".toList ++
      [if hold then '1' else '0'] ++ " -> st=".toList ++ decimalText st.toNat
  | .delay ms => "D ".toList ++ decimalText ms
  | .read addr n bytes =>
    "R ".toList ++ addrText addr ++ ' ' :: decimalText n ++ " -> [".toList ++ bytesText bytes ++ "]".toList

end Sys2Proof.Machine
end

