-- ==== Sys2Proof/Machine/HostPort.lean ====
section
/-! DEFINITION. The host's register reads (R36, R119): a query that changes nothing (log entry 15). No host-visible register can
be written (R37), so there is no other host access. -/

namespace Sys2Proof.Machine

/-- What a register read returns, at the register's width (R36). -/
inductive HostValue where
  | bits8 (v : Byte)
  | bits16 (v : MeasCode)
  | bits64 (v : Bin64)
  deriving DecidableEq, Repr

/-- The outcome of a register read. -/
abbrev HostRead := Host.Outcome HostValue Fault Refusal

/-- A read of a register that may hold no value: while it holds none the spec makes the read a fault, "never a zero" (R11, R36,
R42, D12, I9). The only place that raises `Fault.noValue`. -/
def readHeld {α : Type} (number : Nat) (r : Reg α) (view : α → HostValue) : HostRead :=
  if r.held then .next (view r.val) else .fault (.noValue number)

/-- A read of a SERIAL byte: a fault also before the first READ_DEVINFO has completed (R24; log entry 27). -/
def readSerial (s : State) (number : Nat) (r : Reg Byte) : HostRead :=
  readHeld number { r with held := s.devinfoDone && r.held } .bits8

/-- VALID as host register 0x01: bit 0, bits 7:1 read 0 (R36). -/
def validByte (v : Bool) : Byte := if v then 0x01 else 0x00

/-- DEV_ADDR as host register 0x08: bits 6:0, bit 7 reads 0 (R36). -/
def devAddrByte (a : BusAddr) : Byte := a.setWidth 8

/-- The host's read of register `number` (R36). -/
def hostRead (s : State) (number : Nat) : HostRead :=
  match number with
  | 0x00 => .next (.bits8 s.status)
  | 0x01 => .next (.bits8 (validByte s.valid))
  | 0x02 => readHeld 0x02 s.wstat .bits8
  | 0x03 => readHeld 0x03 s.regBuf .bits8
  | 0x04 => readHeld 0x04 s.raw .bits16
  | 0x05 => readHeld 0x05 s.result .bits64
  | 0x06 => readHeld 0x06 s.fwRev .bits8
  | 0x07 => .next (.bits8 s.caps)
  | 0x08 => .next (.bits8 (devAddrByte s.devAddr))
  | 0x10 => readSerial s 0x10 s.serial[0]
  | 0x11 => readSerial s 0x11 s.serial[1]
  | 0x12 => readSerial s 0x12 s.serial[2]
  | 0x13 => readSerial s 0x13 s.serial[3]
  | 0x14 => readSerial s 0x14 s.serial[4]
  | 0x15 => readSerial s 0x15 s.serial[5]
  | 0x16 => readSerial s 0x16 s.serial[6]
  | 0x17 => readSerial s 0x17 s.serial[7]
  | k => .refused (.reservedRegister k)

end Sys2Proof.Machine
end

