-- ==== Sys2Proof/Safety.lean ====
section
/-! DEFINITION. What claims are stated in: a running codec, the end of a run (R117), a hang (R254), and the invariant of the
machine's registers. -/

namespace Sys2Proof.Machine

/-- SEQ = BUSY. -/
def State.isBusy (s : State) : Bool :=
  match s.seq with
  | .idle => false
  | .busy _ => true

/-- The end of a run (R117): IDLE, and no request left to offer. -/
def State.ended (s : State) : Bool := !s.isBusy && s.reqs.isEmpty

/-- The transport will answer every coming read phase: none of them hangs (R101). -/
def State.noHang (s : State) : Bool := s.readAnswers.all fun a => a != .hang

/-- How many transactions the sequence of an operation has (R116). -/
def opLength (op : OpCode) : Nat :=
  match op.toNat with
  | 0x1 => 2
  | 0x2 => 1
  | 0x3 => 1
  | 0x4 => 1
  | 0x5 => 1
  | 0x6 => 3
  | 0x7 => 2
  | 0x8 => 2
  | _ => 0

/-- The capability an operation needs is there (R71, R118). -/
def capabilityOn (p : Params) (op : OpCode) : Bool :=
  if op = opReadDevinfo then p.capDevinfo
  else if op = opSetHeaterEn ∨ op = opSetHeaterPwr then p.capHeater
  else true

/-- STATUS: bits 3 and 7 are 0, BUSY follows SEQ, BUSY and DONE are never both 1, ERR is a code of R251 (R28). -/
def State.statusLegal (s : State) : Bool :=
  s.status &&& 0x88 == 0 && statusBusy s.status == s.isBusy && !(statusBusy s.status && statusDone s.status) &&
    decide ((statusErr s.status).toNat ≤ 4)

/-- DEV_ADDR and CAPS are what the codec was built with (R22, R31). -/
def State.paramsLoaded (s : State) : Bool := s.devAddr == s.params.devAddr && s.caps == capsByte s.params

/-- Without CAP_CHECKSUM, VALID keeps its reset value (R23, R215). -/
def State.validLegal (s : State) : Bool := s.params.capChecksum || !s.valid

/-- FIRSTERR is NONE or BUS_WRITE: the only error recorded while an operation runs (R107). -/
def State.firstErrLegal (s : State) : Bool := s.firstErr == .none || s.firstErr == .busWrite

/-- RXBUF holds exactly the first `n` bytes and RXLEN is `n` (R33). -/
def State.rxHolds (s : State) (n : Nat) : Bool :=
  s.rxLen == .of n &&
    (List.range 8).all fun i => (s.rxBuf.toList.map Reg.held)[i]? == some (decide (i < n))

/-- The phase fits the current transaction, and what its later phases read has been written (R104, R116). -/
def State.phaseLegal (s : State) (r : Running) : Bool :=
  match s.currentTx r with
  | none => r.txph == .write
  | some tx =>
    match r.txph with
    | .write => true
    | .settle => decide (tx.d > 0) && s.wstat.held
    | .read => decide (tx.n > 0) && s.wstat.held
    | .decode => s.rxHolds tx.n && s.wstat.held

/-- A running request is one the codec accepts, at a place of its sequence (R78, R115, R116, R118); REGBUF holds the byte a
write-back is packed from (R76), and WSTAT the status a completion reads. -/
def State.seqLegal (s : State) : Bool :=
  match s.seq with
  | .idle => true
  | .busy r =>
    (hostInstr r.op r.arg).isSome && capabilityOn s.params r.op && decide (r.ustep.val ≤ opLength r.op) &&
      s.phaseLegal r && (r.ustep == 0 || s.wstat.held) &&
      (!(r.op == opSetHeaterEn || r.op == opSetHeaterPwr) || r.ustep == 0 || s.regBuf.held) &&
      (!(r.op == opBegin) || r.ustep != 2 || s.regBuf.held)

/-- The invariant of the machine. -/
def State.inv (s : State) : Bool :=
  s.statusLegal && s.paramsLoaded && s.validLegal && s.firstErrLegal && s.seqLegal

end Sys2Proof.Machine
end

