-- ==== Sys2Proof/Certificates/Slice0/Obligations.lean ====
section
/-! DEFINITION. The statements for the provers, taken from the numbered rules of spec/. The tables below are written again from
the spec, apart from the model's own definitions. -/

namespace Sys2Proof.Claims

open Sys2Proof.Machine

/-! ## The spec's tables -/

/-- The wire command table of R72: command bytes, response length, settle delay, hold; none for a host request. -/
def wireRow (p : Params) : Instr → Option (List Byte × Nat × Nat × Bool)
  | .wireMeasRhNohold => some ([0xF5], if p.capChecksum then 3 else 2, 25, false)
  | .wireMeasTNohold => some ([0xF3], if p.capChecksum then 3 else 2, 25, false)
  | .wireReadPrevT => some ([0xE0], 2, 0, true)
  | .wireDevReset => some ([0xFE], 0, 50, false)
  | .wireWriteUserReg v => some ([0xE6, v], 0, 0, false)
  | .wireReadUserReg => some ([0xE7], 1, 0, true)
  | .wireWriteHeaterReg v => some ([0x51, v], 0, 0, false)
  | .wireReadHeaterReg => some ([0x11], 1, 0, true)
  | .wireReadSnPart1 => some ([0xFA, 0x0F], 8, 0, true)
  | .wireReadSnPart2 => some ([0xFC, 0xC9], 8, 0, true)
  | .wireReadFwrev => some ([0x84, 0xB8], 1, 0, true)
  | .reqBegin _ => none
  | .reqReadRh _ => none
  | .reqReadT _ => none
  | .reqReadLastT _ => none
  | .reqReset _ => none
  | .reqReadDevinfo _ => none
  | .reqSetHeaterEn _ => none
  | .reqSetHeaterPwr _ => none

/-- The operation codes of R71; none for a wire command. -/
def requestRow : Instr → Option (OpCode × Byte)
  | .reqBegin arg => some (0x1, arg)
  | .reqReadRh arg => some (0x2, arg)
  | .reqReadT arg => some (0x3, arg)
  | .reqReadLastT arg => some (0x4, arg)
  | .reqReset arg => some (0x5, arg)
  | .reqReadDevinfo arg => some (0x6, arg)
  | .reqSetHeaterEn arg => some (0x7, arg)
  | .reqSetHeaterPwr arg => some (0x8, arg)
  | .wireMeasRhNohold => none
  | .wireMeasTNohold => none
  | .wireReadPrevT => none
  | .wireDevReset => none
  | .wireWriteUserReg _ => none
  | .wireReadUserReg => none
  | .wireWriteHeaterReg _ => none
  | .wireReadHeaterReg => none
  | .wireReadSnPart1 => none
  | .wireReadSnPart2 => none
  | .wireReadFwrev => none

/-- The capability column of R71. -/
def capability (p : Params) (op : OpCode) : Bool :=
  if op = 0x6 then p.capDevinfo else if op = 0x7 ∨ op = 0x8 then p.capHeater else true

/-- The commands of R116: the bytes an operation's transaction sends at a USTEP, `old` being REGBUF. The data bytes are those of
R76. -/
def issued (op : OpCode) (arg old : Byte) (ustep : Fin 4) : Option (List Byte) :=
  if op = 0x1 ∧ ustep = 0 then some [0xFE]
  else if op = 0x1 ∧ ustep = 1 then some [0xE7]
  else if op = 0x2 ∧ ustep = 0 then some [0xF5]
  else if op = 0x3 ∧ ustep = 0 then some [0xF3]
  else if op = 0x4 ∧ ustep = 0 then some [0xE0]
  else if op = 0x5 ∧ ustep = 0 then some [0xFE]
  else if op = 0x6 ∧ ustep = 0 then some [0xFA, 0x0F]
  else if op = 0x6 ∧ ustep = 1 then some [0xFC, 0xC9]
  else if op = 0x6 ∧ ustep = 2 then some [0x84, 0xB8]
  else if op = 0x7 ∧ ustep = 0 then some [0xE7]
  else if op = 0x7 ∧ ustep = 1 then some [0xE6, (old &&& 0xFB) ||| (if arg.getLsbD 0 then 0x04 else 0x00)]
  else if op = 0x8 ∧ ustep = 0 then some [0x11]
  else if op = 0x8 ∧ ustep = 1 then some [0x51, (old &&& 0xF0) ||| (arg &&& 0x0F)]
  else none

/-! ## Short names -/

/-- STATUS says: completed, with this OK and this ERR (R28). -/
def completedWith (status : Byte) (ok : Bool) (err : BitVec 3) : Prop :=
  status.getLsbD 0 = false ∧ status.getLsbD 1 = true ∧ status.getLsbD 2 = ok ∧ status.extractLsb' 4 3 = err

/-- The phase after the WRITE phase of a transaction (R104). -/
def phaseAfterWrite (n d : Nat) : TxPhase := if 0 < d then .settle else if 0 < n then .read else .decode

/-- RXBUF holds exactly the bytes `bs` and RXLEN says so: no value above (R33). -/
def rxIs (t : State) (bs : List Byte) : Prop :=
  t.rxLen = .of bs.length ∧
    ∀ k : Fin 8, t.rxBuf[k] = match bs[k.val]? with
      | some b => .of b
      | none => .unwritten 0

/-- The registers no bus phase writes: every host-visible register but WSTAT (R40), the parameters, CRCREG, the host's ports, and
the model's mark devinfoDone (log entry 27). -/
def sameButBusSide (s t : State) : Prop :=
  t.params = s.params ∧ t.devAddr = s.devAddr ∧ t.caps = s.caps ∧ t.valid = s.valid ∧ t.status = s.status ∧
    t.serial = s.serial ∧ t.devinfoDone = s.devinfoDone ∧ t.fwRev = s.fwRev ∧ t.raw = s.raw ∧ t.result = s.result ∧ t.regBuf = s.regBuf ∧
    t.crcReg = s.crcReg ∧ t.reqs = s.reqs ∧ t.resetIn = s.resetIn

/-- The bus-side registers and ports an operation's own steps never write. -/
def sameBusSide (s t : State) : Prop :=
  t.params = s.params ∧ t.devAddr = s.devAddr ∧ t.caps = s.caps ∧ t.wstat = s.wstat ∧ t.txBuf = s.txBuf ∧
    t.txLen = s.txLen ∧ t.rxBuf = s.rxBuf ∧ t.rxLen = s.rxLen ∧ t.reqs = s.reqs ∧ t.resetIn = s.resetIn ∧
    t.writeAnswers = s.writeAnswers ∧ t.readAnswers = s.readAnswers ∧ t.freeCtr = s.freeCtr ∧ t.trace = s.trace

/-- The codec is IDLE with no reset applied and offers the request OP:ARG first. -/
def offers (s : State) (op : OpCode) (arg : Byte) (rest : List ReqWord) : Prop :=
  s.seq = .idle ∧ s.resetIn = false ∧ s.reqs = (op ++ arg) :: rest

/-- `k` steps of the machine from `s` end in `t`. -/
def runsTo (k : Nat) (s t : State) : Prop := Host.Core.run Sys2Proof.core k s = .next t

/-- The read phase is issued after a write of status `st` (R109). -/
def readIssued (s : State) (st : Byte) : Prop := st = 0 ∨ s.params.readOnWriteFail = true

/-- The codec is in a READ phase that issues its read (R109) and the transport will never return from it (R111). -/
def hangs (s : State) : Bool :=
  match s.seq with
  | .idle => false
  | .busy r =>
    r.txph = .read && (s.wstat.val = 0 || s.params.readOnWriteFail) &&
      match s.readAnswers with
      | .hang :: _ => true
      | .bytes _ :: _ => false
      | [] => false

/-- The error code of a request whose only failure can be a write of status `st` (R113). -/
def writeError (st : Byte) : BitVec 3 := if st = 0 then 0 else 1

/-- The value of an exact binary fraction. -/
def valueOf (d : BinFrac) : ℚ := (d.num : ℚ) * (2 : ℚ) ^ d.exp

/-- The value of a finite binary64 pattern. -/
def value64 (b : Bin64) : ℚ := valueOf (fracOf b)

/-- A binary64 pattern is finite: its exponent field is not all ones. -/
def finite64 (b : Bin64) : Prop := b.extractLsb' 52 11 ≠ 0x7FF

end Sys2Proof.Claims

open Sys2Proof Sys2Proof.Machine Sys2Proof.Claims

/-! ## Reset -/

/-- R42: after codec reset, with any parameters, every register holds the value R42 gives it, or no value (OP, ARG, USTEP and
TXPH are held only while BUSY). The clause on devinfoDone is about the model's own mark (log entry 27), no register of R42. -/
def Obligations.ResetLeavesTheListedValues : Prop :=
  ∀ p : Params,
    (State.resetWith p).seq = .idle ∧ (State.resetWith p).devAddr = p.devAddr ∧ (State.resetWith p).valid = false ∧
    (State.resetWith p).status = 0x00 ∧ (State.resetWith p).firstErr = .none ∧
    (State.resetWith p).caps.getLsbD 0 = p.capChecksum ∧ (State.resetWith p).caps.getLsbD 1 = p.capDevinfo ∧
    (State.resetWith p).caps.getLsbD 2 = p.capHeater ∧ (State.resetWith p).caps.extractLsb' 3 5 = 0 ∧
    (∀ k : Fin 8, (State.resetWith p).serial[k].held = false) ∧
    (State.resetWith p).devinfoDone = false ∧ (State.resetWith p).fwRev.held = false ∧
    (State.resetWith p).raw.held = false ∧ (State.resetWith p).result.held = false ∧
    (State.resetWith p).wstat.held = false ∧ (State.resetWith p).regBuf.held = false ∧
    (∀ k : Fin 3, (State.resetWith p).txBuf[k].held = false) ∧ (State.resetWith p).txLen.held = false ∧
    (∀ k : Fin 8, (State.resetWith p).rxBuf[k].held = false) ∧ (State.resetWith p).rxLen.held = false ∧
    (State.resetWith p).crcReg.held = false ∧ State.reset.devAddr = 0x40

/-- R280: the codec reset is one step, at any time, also while BUSY; it puts every register at its R42 value and issues no
event. That the ports and the observation stay, and that a reset out of a hanging read uses up that read's answer, is the
model's choice (log entry 12). The model's mark devinfoDone is cleared with the rest (log entry 27, DEDUCED). -/
def Obligations.CodecResetTakesOneStepFromAnyState : Prop :=
  ∀ s : State, s.resetIn = true →
    step s = .next { State.resetWith s.params with
      reqs := s.reqs, writeAnswers := s.writeAnswers
      readAnswers := if hangs s then s.readAnswers.tail else s.readAnswers
      freeCtr := s.freeCtr, trace := s.trace }

/-! ## Encoding -/

/-- Words written out bit by bit from R70 to R73 decode to the instructions they stand for. -/
def Obligations.SampleWordsDecode : Prop :=
  decode (.request 0b000110101011#12) = .ok (.reqBegin 0xAB) ∧ decode (.request 0b001000000000#12) = .ok (.reqReadRh 0) ∧
  decode (.request 0b001100000000#12) = .ok (.reqReadT 0) ∧ decode (.request 0b011000000000#12) = .ok (.reqReadDevinfo 0) ∧
  decode (.request 0b100000011111#12) = .ok (.reqSetHeaterPwr 0x1F) ∧
  decode (.frame [0b11110101#8]) = .ok .wireMeasRhNohold ∧ decode (.frame [0b11111110#8]) = .ok .wireDevReset ∧
  decode (.frame [0b11100110#8, 0b00111110#8]) = .ok (.wireWriteUserReg 0x3E) ∧
  decode (.frame [0b10000100#8, 0b10111000#8]) = .ok .wireReadFwrev ∧
  decode (.request 0b000011111111#12) = .error (.reservedOp 0x0) ∧ decode (.request 0b100100000000#12) = .error (.reservedOp 0x9)

/-- Decoding the code of a well-formed instruction gives it back, every operand at every value. -/
def Obligations.DecodeOfEncode : Prop := ∀ i : Instr, i.wellFormed = true → decode (encode i) = .ok i

/-- Each instruction has one code: what decodes to it is its code. -/
def Obligations.EncodeOfDecode : Prop := ∀ (c : Code) (i : Instr), decode c = .ok i → encode i = c

/-- R71, R78: a request word decodes by OP = REQ[11:8], with ARG = REQ[7:0]; OP 0x0 and 0x9 to 0xF are reserved. -/
def Obligations.RequestWordsDecodeByOp : Prop :=
  ∀ (w : ReqWord) (i : Instr),
    (decode (.request w) = .ok i ↔ requestRow i = some (w.extractLsb' 8 4, w.extractLsb' 0 8)) ∧
    ((∃ e, decode (.request w) = .error e) ↔ (w.extractLsb' 8 4 = 0 ∨ 9 ≤ (w.extractLsb' 8 4).toNat))

/-- R81: the first byte fixes a command's length, so a stream of commands splits without context. -/
def Obligations.CommandStreamsSplit : Prop :=
  ∀ (p : Params) (i : Instr) (cmd : List Byte) (n d : Nat) (hold : Bool) (rest : List Byte),
    wireRow p i = some (cmd, n, d, hold) → decodeWire (cmd ++ rest) = .ok (i, rest)

/-- R83: a well-formed request line, and no other, assembles to a word: OP << 8 for the lines without operand, 0x700 | state,
0x800 | imm, or the raw word; and the word of an operation's line decodes to that operation with that argument. -/
def Obligations.RequestLinesAssemble : Prop :=
  (∀ l : ReqLine, l.wellFormed = true → ∃ w, assemble l = some w) ∧ (∀ l : ReqLine, l.wellFormed = false → assemble l = none) ∧
  (assemble .beginReq = some (0x1 <<< 8) ∧ decode (.request (0x1 <<< 8)) = .ok (.reqBegin 0)) ∧
  (assemble .readRh = some (0x2 <<< 8) ∧ decode (.request (0x2 <<< 8)) = .ok (.reqReadRh 0)) ∧
  (assemble .readT = some (0x3 <<< 8) ∧ decode (.request (0x3 <<< 8)) = .ok (.reqReadT 0)) ∧
  (assemble .readLastT = some (0x4 <<< 8) ∧ decode (.request (0x4 <<< 8)) = .ok (.reqReadLastT 0)) ∧
  (assemble .resetReq = some (0x5 <<< 8) ∧ decode (.request (0x5 <<< 8)) = .ok (.reqReset 0)) ∧
  (assemble .readDevinfo = some (0x6 <<< 8) ∧ decode (.request (0x6 <<< 8)) = .ok (.reqReadDevinfo 0)) ∧
  (∀ n : Nat, n < 2 → ∃ w, assemble (.setHeaterEn n) = some w ∧ w = 0x700 ||| BitVec.ofNat 12 n ∧
    decode (.request w) = .ok (.reqSetHeaterEn (BitVec.ofNat 8 n))) ∧
  (∀ n : Nat, n < 256 → ∃ w, assemble (.setHeaterPwr n) = some w ∧ w = 0x800 ||| BitVec.ofNat 12 n ∧
    decode (.request w) = .ok (.reqSetHeaterPwr (BitVec.ofNat 8 n))) ∧
  (∀ n : Nat, n < 4096 → assemble (.raw n) = some (BitVec.ofNat 12 n))

/-! ## Stepping -/

/-- A step runs the instruction that the fetched code decodes to: `exec` of it, on the state with the request taken off the port
when the codec is IDLE (R100), on the state itself when it is BUSY (the request port as a list, log entry 11). -/
def Obligations.StepRunsTheDecodedInstruction : Prop :=
  ∀ (s : State) (c : Code) (i : Instr), s.resetIn = false → s.fetchCode = some c → decode c = .ok i →
    (s.seq = .idle → step s = exec i { s with reqs := s.reqs.tail }) ∧ (∀ r, s.seq = .busy r → step s = exec i s)

/-- What is fetched: while IDLE the request offered first; in a bus phase the bytes of R116's command; otherwise the running
request OP:ARG. BEGIN stops before its second command when the first failed (R115, R131). That an operation's own steps fetch
its request is the model's choice (log entry 1). -/
def Obligations.FetchFollowsTheSequence : Prop :=
  (∀ (s : State) (w : ReqWord) (rest : List ReqWord), s.seq = .idle → s.reqs = w :: rest → s.fetchCode = some (.request w)) ∧
  (∀ (s : State) (r : Running) (cmd : List Byte), s.seq = .busy r → issued r.op r.arg s.regBuf.val r.ustep = some cmd →
    s.fetchCode =
      (if r.txph = .decode then some (.request (r.op ++ r.arg))
       else if r.txph = .write ∧ r.op = 0x1 ∧ r.ustep = 1 ∧ s.firstErr ≠ .none then some (.request (r.op ++ r.arg))
       else some (.frame cmd))) ∧
  (∀ (s : State) (r : Running), s.seq = .busy r → issued r.op r.arg s.regBuf.val r.ustep = none →
    s.fetchCode = some (.request (r.op ++ r.arg)))

/-- R100, R114: no step is enabled while IDLE with no request; the model's step then leaves the state (log entry 11). -/
def Obligations.IdleWithoutRequestStays : Prop :=
  ∀ s : State, s.resetIn = false → s.seq = .idle → s.reqs = [] → step s = .next s

/-- R100: while BUSY no request is taken; the host's requests stay at the port, and the running OP and ARG are not replaced. -/
def Obligations.NoRequestIsTakenWhileBusy : Prop :=
  ∀ (s t : State) (r : Running), s.resetIn = false → s.seq = .busy r → step s = .next t →
    t.reqs = s.reqs ∧ (t.seq = .idle ∨ ∃ u ph, t.seq = .busy ⟨r.op, r.arg, u, ph⟩)

/-- R250: there is no exception, so no step faults or is refused. That every state has a next state is the model's in two cases
in which R114 and R254 enable no step: IDLE without a request (log entry 11) and a hanging read (log entry 10) step to the same
state. -/
def Obligations.EveryStepAnswersANextState : Prop := ∀ s : State, ∃ t, step s = .next t

/-- R59, R22: a step appends at most one event to the observation and changes nothing before it; a bus event carries DEV_ADDR.
That the codec reset's step keeps the observation is the model's choice (log entry 12). -/
def Obligations.EventsAreTotallyOrdered : Prop :=
  ∀ s t : State, step s = .next t →
    t.trace = s.trace ∨
    (∃ bytes hold st, t.trace = s.trace ++ [.write s.devAddr bytes hold st]) ∨
    (∃ ms, t.trace = s.trace ++ [.delay ms]) ∨
    (∃ n bytes, t.trace = s.trace ++ [.read s.devAddr n bytes])

/-! ## Acceptance -/

/-- R100: an IDLE codec accepts a request whose capability it has, in one step, for all eight operations; nothing else
changes. -/
def Obligations.IdleCodecAcceptsEveryOperation : Prop :=
  ∀ (i : Instr) (op : OpCode) (arg : Byte) (s : State),
    requestRow i = some (op, arg) → s.seq = .idle → capability s.params op = true →
    exec i s = .next { s with
      seq := .busy ⟨op, arg, 0, .write⟩, firstErr := .none, status := (s.status ||| 0x01) &&& ~~~0x02 }

/-- R118, case 2: an operation whose capability is off completes in its acceptance step with CAP_DISABLED and no event. -/
def Obligations.MissingCapabilityCompletesAtOnce : Prop :=
  ∀ (i : Instr) (op : OpCode) (arg : Byte) (s : State),
    requestRow i = some (op, arg) → s.seq = .idle → capability s.params op = false →
    ∃ t, exec i s = .next t ∧ completedWith t.status false 4 ∧ t = { s with firstErr := .none, status := t.status }

/-- R78, R118 case 1: a reserved OP is accepted and completes at once with ILLEGAL_OP, no event, and no register other than
STATUS changed. That FIRSTERR stays too is R78's sentence on this one request, taken before R35's on every accepted one (log
entry 16). -/
def Obligations.ReservedOpCompletesAtOnce : Prop :=
  ∀ (s : State) (op : OpCode) (arg : Byte) (rest : List ReqWord),
    offers s op arg rest → (op = 0 ∨ 9 ≤ op.toNat) →
    ∃ t, step s = .next t ∧ completedWith t.status false 3 ∧ t = { s with reqs := rest, status := t.status }

/-- R118: the order of dispatch's checks in the acceptance step: a reserved OP first, then a missing capability, otherwise the
first transaction at USTEP 0. No case has a bus or timer event in this step. -/
def Obligations.DispatchChecksInOrder : Prop :=
  ∀ (s : State) (op : OpCode) (arg : Byte) (rest : List ReqWord), offers s op arg rest →
    ∃ t, step s = .next t ∧ t.trace = s.trace ∧
      (if op = 0 ∨ 9 ≤ op.toNat then t.seq = .idle ∧ completedWith t.status false 3
       else if capability s.params op = false then t.seq = .idle ∧ completedWith t.status false 4
       else t.seq = .busy ⟨op, arg, 0, .write⟩)

/-! ## The transaction engine -/

/-- R105, R106, R107: the WRITE phase of every wire command sends its bytes in one transmission with R72's hold flag, records
the status in WSTAT and the first failure in FIRSTERR, and goes on to the next phase whatever the status. -/
def Obligations.WritePhaseOfEveryCommand : Prop :=
  ∀ (i : Instr) (s : State) (r : Running) (cmd : List Byte) (n d : Nat) (hold : Bool),
    wireRow s.params i = some (cmd, n, d, hold) → s.seq = .busy r → r.txph = .write →
    ∃ t, exec i s = .next t ∧
      t.trace = s.trace ++ [.write s.devAddr cmd hold s.nextStatus] ∧
      t.wstat = .of s.nextStatus ∧ t.txOk = decide (s.nextStatus = 0) ∧ hold = (decide (0 < n) && decide (d = 0)) ∧
      t.firstErr = (if s.nextStatus ≠ 0 ∧ s.firstErr = .none then .busWrite else s.firstErr) ∧
      t.txFrame = cmd ∧ t.txLen = .of cmd.length ∧
      t.seq = .busy ⟨r.op, r.arg, r.ustep, phaseAfterWrite n d⟩

/-- The status a write phase returns is the transport's next listed answer, used up by it (R101; that the state lists the
answers is the model's choice, log entry 8). -/
def Obligations.WriteAnswersAreTakenInOrder : Prop :=
  ∀ (i : Instr) (s : State) (r : Running) (cmd : List Byte) (n d : Nat) (hold : Bool) (st : Byte) (rest : List Byte),
    wireRow s.params i = some (cmd, n, d, hold) → s.seq = .busy r → r.txph = .write → s.writeAnswers = st :: rest →
    ∃ t, exec i s = .next t ∧ t.wstat = .of st ∧ t.writeAnswers = rest ∧
      t.trace = s.trace ++ [.write s.devAddr cmd hold st]

/-- A transaction without response enters its DECODE phase with RXLEN 0 and no byte in RXBUF (R33, R104; that this happens in
the step before DECODE is the model's choice, log entry 5). -/
def Obligations.NoResponseLeavesNoBytes : Prop :=
  ∀ (i : Instr) (s : State) (r : Running) (cmd : List Byte) (d : Nat) (hold : Bool),
    wireRow s.params i = some (cmd, 0, d, hold) → s.seq = .busy r →
    (r.txph = .write → d = 0 → ∃ t, exec i s = .next t ∧ rxIs t [] ∧ t.seq = .busy ⟨r.op, r.arg, r.ustep, .decode⟩) ∧
    (r.txph = .settle → ∃ t, exec i s = .next t ∧ rxIs t [] ∧ t.seq = .busy ⟨r.op, r.arg, r.ustep, .decode⟩)

/-- R108: the settle phase records its delay of 25 or 50 ms whatever the write status was, and only then does the transaction go
on. -/
def Obligations.SettlePhaseAlwaysWaits : Prop :=
  ∀ (i : Instr) (s : State) (r : Running) (cmd : List Byte) (n d : Nat) (hold : Bool),
    wireRow s.params i = some (cmd, n, d, hold) → 0 < d → s.seq = .busy r → r.txph = .settle →
    ∃ t, exec i s = .next t ∧ t.trace = s.trace ++ [.delay d] ∧
      t.seq = .busy ⟨r.op, r.arg, r.ustep, if 0 < n then .read else .decode⟩ ∧
      t.wstat = s.wstat ∧ t.firstErr = s.firstErr

/-- R109: when a response is read and the write succeeded, or with P_READ_ON_WRITE_FAIL, the read phase issues one read of the
response's length, and RXBUF holds exactly the bytes it returned (the answers listed in the state are the model's, log entry
8). -/
def Obligations.ReadPhaseTakesTheResponse : Prop :=
  ∀ (i : Instr) (s : State) (r : Running) (cmd : List Byte) (n d : Nat) (hold : Bool) (bs : List Byte) (rest : List ReadAnswer),
    wireRow s.params i = some (cmd, n, d, hold) → 0 < n → s.seq = .busy r → r.txph = .read →
    readIssued s s.wstat.val → s.readAnswers = .bytes bs :: rest → bs.length = n →
    ∃ t, exec i s = .next t ∧ t.trace = s.trace ++ [.read s.devAddr n bs] ∧ rxIs t bs ∧
      t.seq = .busy ⟨r.op, r.arg, r.ustep, .decode⟩ ∧ t.readAnswers = rest

/-- R109: when the write failed and P_READ_ON_WRITE_FAIL is 0, no read event occurs, RXBUF takes a draw of the response's length
(any bytes), and the operation goes on to decode it. -/
def Obligations.SkippedReadTakesADraw : Prop :=
  ∀ (i : Instr) (s : State) (r : Running) (cmd : List Byte) (n d : Nat) (hold : Bool),
    wireRow s.params i = some (cmd, n, d, hold) → 0 < n → s.seq = .busy r → r.txph = .read →
    s.wstat.val ≠ 0 → s.params.readOnWriteFail = false →
    ∃ t bs, exec i s = .next t ∧ bs.length = n ∧ rxIs t bs ∧ t.trace = s.trace ∧ t.readAnswers = s.readAnswers ∧
      t.seq = .busy ⟨r.op, r.arg, r.ustep, .decode⟩

/-- R111, R254: a read that never returns leaves the codec BUSY for ever: no number of steps changes the state (the infinite run
as a step to the same state is the model's, log entry 10). -/
def Obligations.HangingReadNeverEnds : Prop :=
  ∀ (s : State) (r : Running) (cmd : List Byte) (rest : List ReadAnswer) (k : Nat),
    s.resetIn = false → s.seq = .busy r → r.txph = .read → issued r.op r.arg s.regBuf.val r.ustep = some cmd →
    readIssued s s.wstat.val → s.readAnswers = .hang :: rest → runsTo k s s

/-- R40, R104: the bus phases of a wire command write no host-visible register but WSTAT, and WSTAT, TXBUF, TXLEN and FIRSTERR
only in the WRITE phase; OP, ARG and USTEP stay. That a wire command leaves the state while IDLE and in a DECODE phase is the
model's choice (log entry 17). The frame includes the model's mark devinfoDone (log entry 27). -/
def Obligations.WireCommandFrame : Prop :=
  ∀ (i : Instr) (s t : State), requestRow i = none → exec i s = .next t →
    sameButBusSide s t ∧
    (s.seq = .idle → t = s) ∧
    (∀ r, s.seq = .busy r → (∃ ph, t.seq = .busy ⟨r.op, r.arg, r.ustep, ph⟩) ∧
      (r.txph ≠ .write → t.wstat = s.wstat ∧ t.txBuf = s.txBuf ∧ t.txLen = s.txLen ∧ t.firstErr = s.firstErr ∧
        t.writeAnswers = s.writeAnswers) ∧
      (r.txph ≠ .read → t.readAnswers = s.readAnswers) ∧ (r.txph = .decode → t = s))

/-! ## The operations' own steps -/

/-- R150, R153, R159, R213 to R215: READ_RH's decode step writes RAW, the clamped RESULT and, with CAP_CHECKSUM, CRCREG and
VALID; nothing else but the sequencer. -/
def Obligations.ReadRhDecodes : Prop :=
  ∀ (arg : Byte) (s : State), s.seq = .busy ⟨0x2, arg, 0, .decode⟩ →
    exec (.reqReadRh arg) s = .next { s with
      raw := .of (s.rxBuf[0].val ++ s.rxBuf[1].val)
      result := .of (clampRh (convRh (s.rxBuf[0].val ++ s.rxBuf[1].val)))
      crcReg := if s.params.capChecksum then .of (crc8 [s.rxBuf[0].val, s.rxBuf[1].val]) else s.crcReg
      valid := if s.params.capChecksum then decide (crc8 [s.rxBuf[0].val, s.rxBuf[1].val] = s.rxBuf[2].val) else s.valid
      seq := .busy ⟨0x2, arg, 1, .write⟩ }

/-- R151, R158: READ_T's decode step, as READ_RH's with the temperature conversion and no clamp. -/
def Obligations.ReadTDecodes : Prop :=
  ∀ (arg : Byte) (s : State), s.seq = .busy ⟨0x3, arg, 0, .decode⟩ →
    exec (.reqReadT arg) s = .next { s with
      raw := .of (s.rxBuf[0].val ++ s.rxBuf[1].val)
      result := .of (convT (s.rxBuf[0].val ++ s.rxBuf[1].val))
      crcReg := if s.params.capChecksum then .of (crc8 [s.rxBuf[0].val, s.rxBuf[1].val]) else s.crcReg
      valid := if s.params.capChecksum then decide (crc8 [s.rxBuf[0].val, s.rxBuf[1].val] = s.rxBuf[2].val) else s.valid
      seq := .busy ⟨0x3, arg, 1, .write⟩ }

/-- R152: READ_LAST_T's decode step writes RAW and RESULT and leaves VALID, whatever CAP_CHECKSUM. -/
def Obligations.ReadLastTDecodes : Prop :=
  ∀ (arg : Byte) (s : State), s.seq = .busy ⟨0x4, arg, 0, .decode⟩ →
    exec (.reqReadLastT arg) s = .next { s with
      raw := .of (s.rxBuf[0].val ++ s.rxBuf[1].val)
      result := .of (convT (s.rxBuf[0].val ++ s.rxBuf[1].val))
      seq := .busy ⟨0x4, arg, 1, .write⟩ }

/-- R180, R181, R182: READ_DEVINFO's three decode steps keep the bytes at even positions; VALID is not touched. -/
def Obligations.ReadDevinfoDecodes : Prop :=
  ∀ (arg : Byte) (s : State),
    (s.seq = .busy ⟨0x6, arg, 0, .decode⟩ → exec (.reqReadDevinfo arg) s = .next { s with
      serial := #v[.of s.rxBuf[0].val, .of s.rxBuf[2].val, .of s.rxBuf[4].val, .of s.rxBuf[6].val,
        s.serial[4], s.serial[5], s.serial[6], s.serial[7]]
      seq := .busy ⟨0x6, arg, 1, .write⟩ }) ∧
    (s.seq = .busy ⟨0x6, arg, 1, .decode⟩ → exec (.reqReadDevinfo arg) s = .next { s with
      serial := #v[s.serial[0], s.serial[1], s.serial[2], s.serial[3],
        .of s.rxBuf[0].val, .of s.rxBuf[2].val, .of s.rxBuf[4].val, .of s.rxBuf[6].val]
      seq := .busy ⟨0x6, arg, 2, .write⟩ }) ∧
    (s.seq = .busy ⟨0x6, arg, 2, .decode⟩ → exec (.reqReadDevinfo arg) s = .next { s with
      fwRev := .of s.rxBuf[0].val
      seq := .busy ⟨0x6, arg, 3, .write⟩ })

/-- R131, R193, R194, R30: the read of a device register goes into REGBUF (BEGIN's second decode step, the heater operations'
first); the decode step of a transaction without response writes nothing. -/
def Obligations.RegisterReadsGoToRegbuf : Prop :=
  ∀ (arg : Byte) (s : State),
    (s.seq = .busy ⟨0x1, arg, 0, .decode⟩ → exec (.reqBegin arg) s = .next { s with seq := .busy ⟨0x1, arg, 1, .write⟩ }) ∧
    (s.seq = .busy ⟨0x1, arg, 1, .decode⟩ → exec (.reqBegin arg) s =
      .next { s with regBuf := .of s.rxBuf[0].val, seq := .busy ⟨0x1, arg, 2, .write⟩ }) ∧
    (s.seq = .busy ⟨0x5, arg, 0, .decode⟩ → exec (.reqReset arg) s = .next { s with seq := .busy ⟨0x5, arg, 1, .write⟩ }) ∧
    (s.seq = .busy ⟨0x7, arg, 0, .decode⟩ → exec (.reqSetHeaterEn arg) s =
      .next { s with regBuf := .of s.rxBuf[0].val, seq := .busy ⟨0x7, arg, 1, .write⟩ }) ∧
    (s.seq = .busy ⟨0x7, arg, 1, .decode⟩ → exec (.reqSetHeaterEn arg) s =
      .next { s with seq := .busy ⟨0x7, arg, 2, .write⟩ }) ∧
    (s.seq = .busy ⟨0x8, arg, 0, .decode⟩ → exec (.reqSetHeaterPwr arg) s =
      .next { s with regBuf := .of s.rxBuf[0].val, seq := .busy ⟨0x8, arg, 1, .write⟩ }) ∧
    (s.seq = .busy ⟨0x8, arg, 1, .decode⟩ → exec (.reqSetHeaterPwr arg) s =
      .next { s with seq := .busy ⟨0x8, arg, 2, .write⟩ })

/-- R112, R113: the measurement, identity and heater operations complete by default, OK exactly when no error was recorded, ERR
the first error, and nothing but STATUS and SEQ written; from READ_DEVINFO's on, SERIAL may be read (R24; the mark devinfoDone,
log entry 27). Where the completion stands in the sequence is the model's choice (log entry 4). -/
def Obligations.DefaultCompletion : Prop :=
  ∀ (i : Instr) (op : OpCode) (arg : Byte) (ustep : Fin 4) (s : State),
    requestRow i = some (op, arg) → op ≠ 0x1 → op ≠ 0x5 →
    ustep.val = (if op = 0x6 then 3 else if op = 0x7 ∨ op = 0x8 then 2 else 1) →
    s.seq = .busy ⟨op, arg, ustep, .write⟩ →
    ∃ t, exec i s = .next t ∧ completedWith t.status (decide (s.firstErr = .none)) s.firstErr.code ∧
      t = { s with seq := .idle, status := t.status, devinfoDone := s.devinfoDone || decide (op = 0x6) }

/-- R130: RESET completes with OK telling whether its write succeeded (at the model's place for a completion, log entry 4). -/
def Obligations.ResetCompletion : Prop :=
  ∀ (arg : Byte) (s : State), s.seq = .busy ⟨0x5, arg, 1, .write⟩ →
    ∃ t, exec (.reqReset arg) s = .next t ∧ completedWith t.status (decide (s.wstat.val = 0)) s.firstErr.code ∧
      t = { s with seq := .idle, status := t.status }

/-- R131, R132, R255: BEGIN's completion, for both variants: BUS_WRITE with no second transaction when the reset write failed;
otherwise OK by the comparison of all eight bits with 0x3A, CONFIG_MISMATCH only when no write failed. Where the completion
stands in the sequence is the model's choice (log entry 4). -/
def Obligations.BeginCompletion : Prop :=
  ∀ (arg : Byte) (s : State),
    (s.seq = .busy ⟨0x1, arg, 1, .write⟩ → s.firstErr ≠ .none →
      ∃ t, exec (.reqBegin arg) s = .next t ∧ completedWith t.status false 1 ∧ t = { s with seq := .idle, status := t.status }) ∧
    (s.seq = .busy ⟨0x1, arg, 2, .write⟩ →
      ∃ t, exec (.reqBegin arg) s = .next t ∧ t = { s with seq := .idle, status := t.status } ∧
        (s.regBuf.val = 0x3A → completedWith t.status true s.firstErr.code) ∧
        (s.regBuf.val ≠ 0x3A → s.params.beginVariant = .checkRead → s.wstat.val ≠ 0 →
          completedWith t.status true s.firstErr.code) ∧
        (s.regBuf.val ≠ 0x3A → (s.params.beginVariant = .ignoreRead ∨ s.wstat.val = 0) →
          completedWith t.status false (if s.firstErr = .none then 2 else s.firstErr.code)))

/-- The frame of the eight operations' own steps, by kind of state (R23 to R31, R40): never a bus-side register, a port or the
observation; VALID and CRCREG only by READ_RH and READ_T with CAP_CHECKSUM; RAW and RESULT only by the measurement operations;
REGBUF only by BEGIN and the heater operations; SERIAL, FWREV and the model's mark devinfoDone (log entry 27) only by
READ_DEVINFO; FIRSTERR only at acceptance. -/
def Obligations.OperationFrame : Prop :=
  ∀ (i : Instr) (op : OpCode) (arg : Byte) (s t : State), requestRow i = some (op, arg) → exec i s = .next t →
    sameBusSide s t ∧
    ((op ≠ 0x2 ∧ op ≠ 0x3) ∨ s.params.capChecksum = false → t.valid = s.valid ∧ t.crcReg = s.crcReg) ∧
    (op ≠ 0x2 ∧ op ≠ 0x3 ∧ op ≠ 0x4 → t.raw = s.raw ∧ t.result = s.result) ∧
    (op ≠ 0x1 ∧ op ≠ 0x7 ∧ op ≠ 0x8 → t.regBuf = s.regBuf) ∧
    (op ≠ 0x6 → t.serial = s.serial ∧ t.fwRev = s.fwRev ∧ t.devinfoDone = s.devinfoDone) ∧
    (s.seq ≠ .idle → t.firstErr = s.firstErr)

/-! ## The data parts -/

/-- R190, R196: the byte a heater operation writes keeps every bit outside its field and takes its field from ARG. -/
def Obligations.PackerKeepsOtherBits : Prop :=
  (∀ (old mask val : Byte) (k : Fin 8), (insertField old mask val).getLsbD k =
    if mask.getLsbD k then val.getLsbD k else old.getLsbD k) ∧
  (∀ (old arg : Byte), heaterEnData old arg &&& ~~~0x04 = old &&& ~~~0x04 ∧ (heaterEnData old arg).getLsbD 2 = arg.getLsbD 0) ∧
  (∀ (old arg : Byte), heaterPwrData old arg &&& ~~~0x0F = old &&& ~~~0x0F ∧ heaterPwrData old arg &&& 0x0F = arg &&& 0x0F)

/-- R75: every operation but the heater ones ignores ARG, SET_HEATER_EN looks at ARG[0] only and SET_HEATER_PWR at ARG[3:0]
only: the commands issued do not depend on the rest, whether or not an error was recorded. -/
def Obligations.OnlyHeaterOperationsReadArg : Prop :=
  ∀ (s : State) (r : Running) (arg : Byte), s.seq = .busy r → r.txph = .write →
    (r.op ≠ 0x7 ∧ r.op ≠ 0x8 ∨ r.op = 0x7 ∧ arg.getLsbD 0 = r.arg.getLsbD 0 ∨ r.op = 0x8 ∧ arg &&& 0x0F = r.arg &&& 0x0F) →
    ∀ cmd, s.fetchCode = some (.frame cmd) → ({ s with seq := .busy { r with arg := arg } } : State).fetchCode = some (.frame cmd)

/-- R216: the corner values of the checksum. -/
def Obligations.ChecksumCornerValues : Prop :=
  crc8 [0x00, 0x00] = 0x00 ∧ crc8 [0x00, 0x01] = 0x31 ∧ crc8 [0x4E, 0x85] = 0x6B ∧ crc8 [0xFF, 0xFF] = 0x2D

/-- R212: sixteen bit-serial steps over b0 then b1 give the byte-serial checksum. -/
def Obligations.SerialChecksumAgrees : Prop := ∀ bs : List Byte, crc8Serial bs = crc8 bs

/-- A message followed by its checksum has checksum 0 (spec/95_test_vectors.md section 4), for a message of any length. -/
def Obligations.ChecksumOfCheckedMessageIsZero : Prop := ∀ bs : List Byte, crc8 (bs ++ [crc8 bs]) = 0

/-- R11: `fl64` rounds to nearest: no finite binary64 is closer to the exact value, and at a tie the result's last bit is 0. -/
def Obligations.RoundingIsToNearestEven : Prop :=
  ∀ (d : BinFrac) (x : Bin64), |valueOf d| < 2 ^ (1023 : ℤ) → finite64 x →
    finite64 (roundBin64 d) ∧
    |value64 (roundBin64 d) - valueOf d| ≤ |value64 x - valueOf d| ∧
    (|value64 (roundBin64 d) - valueOf d| = |value64 x - valueOf d| → value64 x ≠ value64 (roundBin64 d) →
      (roundBin64 d).getLsbD 0 = false)

/-- R154: each of CONV_RH's three steps is exact, so it is the rational number (125 * raw - 393216) / 65536, for every code. -/
def Obligations.HumidityConversionIsExact : Prop :=
  ∀ raw : MeasCode,
    value64 (mulBin64 (bin64OfCode raw) bin64Of125) = 125 * (raw.toNat : ℚ) ∧
    value64 (div65536Bin64 (mulBin64 (bin64OfCode raw) bin64Of125)) = 125 * (raw.toNat : ℚ) / 65536 ∧
    value64 (subBin64 (div65536Bin64 (mulBin64 (bin64OfCode raw) bin64Of125)) bin64Of6) = 125 * (raw.toNat : ℚ) / 65536 - 6 ∧
    finite64 (convRh raw) ∧ value64 (convRh raw) = (125 * (raw.toNat : ℚ) - 393216) / 65536

/-- R155: the clamped humidity is min(max(h, 0), 100) of the converted one, so it lies in [0, 100] for every code, and a value
already in [0, 100] passes through unchanged. -/
def Obligations.HumidityIsClamped : Prop :=
  ∀ raw : MeasCode, value64 (clampRh (convRh raw)) = min (max (value64 (convRh raw)) 0) 100 ∧
    0 ≤ value64 (clampRh (convRh raw)) ∧ value64 (clampRh (convRh raw)) ≤ 100 ∧ finite64 (clampRh (convRh raw)) ∧
    (0 ≤ value64 (convRh raw) → value64 (convRh raw) ≤ 100 → clampRh (convRh raw) = convRh raw)

/-- R158: every code gives a finite temperature between that of code 0x0000, -46.85, and that of code 0xFFFF,
128.86731872558593. -/
def Obligations.TemperatureIsInRange : Prop :=
  ∀ raw : MeasCode, finite64 (convT raw) ∧ value64 0xC0476CCCCCCCCCCD ≤ value64 (convT raw) ∧
    value64 (convT raw) ≤ value64 0x40601BC113333333 ∧
    convT 0x0000 = 0xC0476CCCCCCCCCCD ∧ convT 0xFFFF = 0x40601BC113333333

/-- R156, R157: CONV_T rounds after each of its three steps: the product of the code and K1, the quotient by 65536, the
difference from K2, each the rounding of its exact value. -/
def Obligations.TemperatureConversionRoundsEachStep : Prop :=
  ∀ raw : MeasCode, ∃ p q d : BinFrac,
    valueOf p = (raw.toNat : ℚ) * (6182597863449559 / 2 ^ 45) ∧ valueOf q = value64 (roundBin64 p) / 65536 ∧
    valueOf d = value64 (roundBin64 q) - 6593551329447117 / 2 ^ 47 ∧ convT raw = roundBin64 d

/-- R157: the constants of the temperature formula as exact fractions. -/
def Obligations.TemperatureConstants : Prop :=
  value64 Config.k1 = 6182597863449559 / 2 ^ 45 ∧ value64 Config.k2 = 6593551329447117 / 2 ^ 47

/-! ## The host's reads -/

/-- R36, R11: the host register map. A read of a register that holds no value is a fault, a reserved number is refused. SERIAL
is also a fault before a READ_DEVINFO has completed (R24), which the model reads off its mark devinfoDone (log entry 27). -/
def Obligations.HostRegisterMap : Prop :=
  ∀ s : State,
    hostRead s 0x00 = .next (.bits8 s.status) ∧
    hostRead s 0x01 = .next (.bits8 (if s.valid then 1 else 0)) ∧
    hostRead s 0x02 = (if s.wstat.held then .next (.bits8 s.wstat.val) else .fault (.noValue 0x02)) ∧
    hostRead s 0x03 = (if s.regBuf.held then .next (.bits8 s.regBuf.val) else .fault (.noValue 0x03)) ∧
    hostRead s 0x04 = (if s.raw.held then .next (.bits16 s.raw.val) else .fault (.noValue 0x04)) ∧
    hostRead s 0x05 = (if s.result.held then .next (.bits64 s.result.val) else .fault (.noValue 0x05)) ∧
    hostRead s 0x06 = (if s.fwRev.held then .next (.bits8 s.fwRev.val) else .fault (.noValue 0x06)) ∧
    hostRead s 0x07 = .next (.bits8 s.caps) ∧
    hostRead s 0x08 = .next (.bits8 (0#1 ++ s.devAddr)) ∧
    (∀ k : Fin 8, hostRead s (0x10 + k.val) =
      if s.devinfoDone = true ∧ s.serial[k].held = true then .next (.bits8 s.serial[k].val) else .fault (.noValue (0x10 + k.val))) ∧
    (∀ n : Nat, (0x08 < n ∧ n < 0x10) ∨ 0x17 < n → hostRead s n = .refused (.reservedRegister n))

/-- R24: until the first READ_DEVINFO since codec reset completes, every read of SERIAL is a fault, and only the step that
completes a READ_DEVINFO ends that; after a codec reset it holds again. That the state keeps a mark for it is the model's (log
entry 27). -/
def Obligations.SerialIsReadOnlyAfterCompletion : Prop :=
  (∀ (s : State) (k : Fin 8), s.devinfoDone = false → hostRead s (0x10 + k.val) = .fault (.noValue (0x10 + k.val))) ∧
  (∀ s t : State, step s = .next t → s.devinfoDone = false → t.devinfoDone = true →
    t.seq = .idle ∧ ∃ r, s.seq = .busy r ∧ r.op = 0x6 ∧ r.ustep = 3) ∧
  (∀ s t : State, step s = .next t → s.devinfoDone = true → t.devinfoDone = !s.resetIn)

/-! ## Invariants -/

/-- The invariant of the machine holds after reset, with any parameters. -/
def Obligations.ResetMeetsTheInvariant : Prop := ∀ p : Params, (State.resetWith p).inv = true

/-- Every step keeps the invariant: STATUS is legal and follows SEQ (R28), DEV_ADDR and CAPS stay what the codec was built with
(R22, R31), VALID keeps its reset value without CAP_CHECKSUM (R23), FIRSTERR is NONE or BUS_WRITE (R107), and a running request
stands at a place of its sequence with every register its later steps read written (R115, R116; so R11's fault on an unwritten
register cannot arise inside the codec). -/
def Obligations.StepKeepsTheInvariant : Prop := ∀ s t : State, s.inv = true → step s = .next t → t.inv = true

/-- R22, R31: DEV_ADDR, CAPS and the parameters never change. -/
def Obligations.BuiltInRegistersNeverChange : Prop :=
  ∀ s t : State, s.paramsLoaded = true → step s = .next t →
    t.params = s.params ∧ t.devAddr = s.devAddr ∧ t.caps = s.caps ∧ t.paramsLoaded = true

/-- R117, R292: unless a read hangs, every running request completes: at most ten more steps lead to IDLE. -/
def Obligations.EveryRequestCompletes : Prop :=
  ∀ s : State, s.inv = true → s.noHang = true → s.resetIn = false → ∃ k t, k ≤ 10 ∧ runsTo k s t ∧ t.seq = .idle

/-! ## Whole operations -/

/-- R130: RESET from acceptance to completion: one write of FE, the 50 ms wait whatever its status, no earlier result changed.
The listed requests and answers are the model's (log entries 8 and 11). -/
def Obligations.ResetRunsToCompletion : Prop :=
  ∀ (s : State) (arg st : Byte) (rest : List ReqWord) (ws : List Byte),
    offers s 0x5 arg rest → s.writeAnswers = st :: ws →
    ∃ t, runsTo 5 s t ∧ t.seq = .idle ∧ t.reqs = rest ∧
      t.trace = s.trace ++ [.write s.devAddr [0xFE] false st, .delay 50] ∧
      t.wstat = .of st ∧ completedWith t.status (decide (st = 0)) (writeError st) ∧ rxIs t [] ∧
      t.txFrame = [0xFE] ∧ t.txLen = .of 1 ∧
      t.valid = s.valid ∧ t.raw = s.raw ∧ t.result = s.result ∧ t.regBuf = s.regBuf ∧ t.serial = s.serial ∧ t.fwRev = s.fwRev

/-- R131: BEGIN from acceptance to completion when the reset write succeeds: the two transactions, REGBUF, and OK and ERR by the
variant; when it fails, one transaction and BUS_WRITE. The listed requests and answers are the model's (log entries 8 and
11). -/
def Obligations.BeginRunsToCompletion : Prop :=
  (∀ (s : State) (arg st1 b : Byte) (rest : List ReqWord) (ws : List Byte) (rs : List ReadAnswer),
    offers s 0x1 arg rest → s.writeAnswers = 0 :: st1 :: ws → s.readAnswers = .bytes [b] :: rs → readIssued s st1 →
    ∃ t, runsTo 8 s t ∧ t.seq = .idle ∧ t.reqs = rest ∧
      t.trace = s.trace ++ [.write s.devAddr [0xFE] false 0, .delay 50, .write s.devAddr [0xE7] true st1, .read s.devAddr 1 [b]] ∧
      t.regBuf = .of b ∧ t.wstat = .of st1 ∧
      (b = 0x3A ∨ (s.params.beginVariant = .checkRead ∧ st1 ≠ 0) → completedWith t.status true (writeError st1)) ∧
      (b ≠ 0x3A ∧ (s.params.beginVariant = .ignoreRead ∨ st1 = 0) →
        completedWith t.status false (if st1 = 0 then 2 else 1))) ∧
  (∀ (s : State) (arg st0 : Byte) (rest : List ReqWord) (ws : List Byte),
    offers s 0x1 arg rest → s.writeAnswers = st0 :: ws → st0 ≠ 0 →
    ∃ t, runsTo 5 s t ∧ t.seq = .idle ∧ t.reqs = rest ∧
      t.trace = s.trace ++ [.write s.devAddr [0xFE] false st0, .delay 50] ∧
      t.regBuf = s.regBuf ∧ t.wstat = .of st0 ∧ completedWith t.status false 1)

/-- R150: READ_RH from acceptance to completion: one transaction with its 25 ms wait between write and read; RAW, the clamped
RESULT and VALID from the bytes returned; a bad checksum is no error, a failed write is. The listed requests and answers are the
model's (log entries 8 and 11). -/
def Obligations.ReadRhRunsToCompletion : Prop :=
  ∀ (s : State) (arg st b0 b1 c : Byte) (rest : List ReqWord) (ws : List Byte) (rs : List ReadAnswer),
    offers s 0x2 arg rest → s.writeAnswers = st :: ws → readIssued s st →
    s.readAnswers = .bytes (if s.params.capChecksum then [b0, b1, c] else [b0, b1]) :: rs →
    ∃ t, runsTo 6 s t ∧ t.seq = .idle ∧ t.reqs = rest ∧
      t.trace = s.trace ++ [.write s.devAddr [0xF5] false st, .delay 25,
        .read s.devAddr (if s.params.capChecksum then 3 else 2) (if s.params.capChecksum then [b0, b1, c] else [b0, b1])] ∧
      t.raw = .of (b0 ++ b1) ∧ t.result = .of (clampRh (convRh (b0 ++ b1))) ∧
      t.valid = (if s.params.capChecksum then decide (crc8 [b0, b1] = c) else s.valid) ∧
      t.wstat = .of st ∧ completedWith t.status (decide (st = 0)) (writeError st) ∧
      t.regBuf = s.regBuf ∧ t.serial = s.serial ∧ t.fwRev = s.fwRev

/-- R151: READ_T from acceptance to completion. The listed requests and answers are the model's (log entries 8 and 11). -/
def Obligations.ReadTRunsToCompletion : Prop :=
  ∀ (s : State) (arg st b0 b1 c : Byte) (rest : List ReqWord) (ws : List Byte) (rs : List ReadAnswer),
    offers s 0x3 arg rest → s.writeAnswers = st :: ws → readIssued s st →
    s.readAnswers = .bytes (if s.params.capChecksum then [b0, b1, c] else [b0, b1]) :: rs →
    ∃ t, runsTo 6 s t ∧ t.seq = .idle ∧ t.reqs = rest ∧
      t.trace = s.trace ++ [.write s.devAddr [0xF3] false st, .delay 25,
        .read s.devAddr (if s.params.capChecksum then 3 else 2) (if s.params.capChecksum then [b0, b1, c] else [b0, b1])] ∧
      t.raw = .of (b0 ++ b1) ∧ t.result = .of (convT (b0 ++ b1)) ∧
      t.valid = (if s.params.capChecksum then decide (crc8 [b0, b1] = c) else s.valid) ∧
      t.wstat = .of st ∧ completedWith t.status (decide (st = 0)) (writeError st) ∧
      t.regBuf = s.regBuf ∧ t.serial = s.serial ∧ t.fwRev = s.fwRev

/-- R152: READ_LAST_T from acceptance to completion: a held write, an immediate read of two bytes, VALID untouched. The listed
requests and answers are the model's (log entries 8 and 11). -/
def Obligations.ReadLastTRunsToCompletion : Prop :=
  ∀ (s : State) (arg st b0 b1 : Byte) (rest : List ReqWord) (ws : List Byte) (rs : List ReadAnswer),
    offers s 0x4 arg rest → s.writeAnswers = st :: ws → readIssued s st → s.readAnswers = .bytes [b0, b1] :: rs →
    ∃ t, runsTo 5 s t ∧ t.seq = .idle ∧ t.reqs = rest ∧
      t.trace = s.trace ++ [.write s.devAddr [0xE0] true st, .read s.devAddr 2 [b0, b1]] ∧
      t.raw = .of (b0 ++ b1) ∧ t.result = .of (convT (b0 ++ b1)) ∧ t.valid = s.valid ∧
      t.wstat = .of st ∧ completedWith t.status (decide (st = 0)) (writeError st) ∧
      t.regBuf = s.regBuf ∧ t.serial = s.serial ∧ t.fwRev = s.fwRev

/-- R180: READ_DEVINFO from acceptance to completion: three independent transactions, the serial number from the bytes at even
positions, the revision, and BUS_WRITE when any write failed. The listed requests and answers are the model's (log entries 8 and
11). That SERIAL may be read from this completion on (R24), also when a write failed, is the mark devinfoDone of log entry
27. -/
def Obligations.ReadDevinfoRunsToCompletion : Prop :=
  ∀ (s : State) (arg st1 st2 st3 d0 c0 d1 c1 d2 c2 d3 c3 e0 f0 e1 f1 e2 f2 e3 f3 v : Byte) (rest : List ReqWord)
    (ws : List Byte) (rs : List ReadAnswer),
    offers s 0x6 arg rest → s.params.capDevinfo = true → s.writeAnswers = st1 :: st2 :: st3 :: ws →
    readIssued s st1 → readIssued s st2 → readIssued s st3 →
    s.readAnswers = .bytes [d0, c0, d1, c1, d2, c2, d3, c3] :: .bytes [e0, f0, e1, f1, e2, f2, e3, f3] :: .bytes [v] :: rs →
    ∃ t, runsTo 11 s t ∧ t.seq = .idle ∧ t.reqs = rest ∧
      t.trace = s.trace ++ [.write s.devAddr [0xFA, 0x0F] true st1, .read s.devAddr 8 [d0, c0, d1, c1, d2, c2, d3, c3],
        .write s.devAddr [0xFC, 0xC9] true st2, .read s.devAddr 8 [e0, f0, e1, f1, e2, f2, e3, f3],
        .write s.devAddr [0x84, 0xB8] true st3, .read s.devAddr 1 [v]] ∧
      t.serial = #v[.of d0, .of d1, .of d2, .of d3, .of e0, .of e1, .of e2, .of e3] ∧ t.fwRev = .of v ∧ t.devinfoDone = true ∧
      t.wstat = .of st3 ∧
      completedWith t.status (decide (st1 = 0 ∧ st2 = 0 ∧ st3 = 0)) (if st1 = 0 ∧ st2 = 0 ∧ st3 = 0 then 0 else 1) ∧
      t.valid = s.valid ∧ t.raw = s.raw ∧ t.result = s.result ∧ t.regBuf = s.regBuf

/-- R193: SET_HEATER_EN from acceptance to completion: the register is read, bit 2 replaced by ARG[0], and written back whatever
the statuses. The listed requests and answers are the model's (log entries 8 and 11). -/
def Obligations.SetHeaterEnRunsToCompletion : Prop :=
  ∀ (s : State) (arg st0 st1 b : Byte) (rest : List ReqWord) (ws : List Byte) (rs : List ReadAnswer),
    offers s 0x7 arg rest → s.params.capHeater = true → s.writeAnswers = st0 :: st1 :: ws → readIssued s st0 →
    s.readAnswers = .bytes [b] :: rs →
    ∃ t, runsTo 7 s t ∧ t.seq = .idle ∧ t.reqs = rest ∧
      t.trace = s.trace ++ [.write s.devAddr [0xE7] true st0, .read s.devAddr 1 [b],
        .write s.devAddr [0xE6, (b &&& 0xFB) ||| (if arg.getLsbD 0 then 0x04 else 0x00)] false st1] ∧
      t.regBuf = .of b ∧ t.wstat = .of st1 ∧
      completedWith t.status (decide (st0 = 0 ∧ st1 = 0)) (if st0 = 0 ∧ st1 = 0 then 0 else 1) ∧
      t.valid = s.valid ∧ t.raw = s.raw ∧ t.result = s.result ∧ t.serial = s.serial ∧ t.fwRev = s.fwRev

/-- R194: SET_HEATER_PWR from acceptance to completion: the register is read, its low four bits replaced by ARG[3:0], and
written back whatever the statuses. The listed requests and answers are the model's (log entries 8 and 11). -/
def Obligations.SetHeaterPwrRunsToCompletion : Prop :=
  ∀ (s : State) (arg st0 st1 b : Byte) (rest : List ReqWord) (ws : List Byte) (rs : List ReadAnswer),
    offers s 0x8 arg rest → s.params.capHeater = true → s.writeAnswers = st0 :: st1 :: ws → readIssued s st0 →
    s.readAnswers = .bytes [b] :: rs →
    ∃ t, runsTo 7 s t ∧ t.seq = .idle ∧ t.reqs = rest ∧
      t.trace = s.trace ++ [.write s.devAddr [0x11] true st0, .read s.devAddr 1 [b],
        .write s.devAddr [0x51, (b &&& 0xF0) ||| (arg &&& 0x0F)] false st1] ∧
      t.regBuf = .of b ∧ t.wstat = .of st1 ∧
      completedWith t.status (decide (st0 = 0 ∧ st1 = 0)) (if st0 = 0 ∧ st1 = 0 then 0 else 1) ∧
      t.valid = s.valid ∧ t.raw = s.raw ∧ t.result = s.result ∧ t.serial = s.serial ∧ t.fwRev = s.fwRev
end

