-- ==== Sys2Proof/Laws/Data.lean ====
section
/-! SUPPORT. Laws of the data parts: the field packer, the code of two bytes, one round of the checksum. -/

namespace Sys2Proof.Machine

/-- INSERT bit by bit (R190). -/
theorem insertField_bit (old mask val : Byte) (k : Nat) :
    (insertField old mask val).getLsbD k =
      ((decide (k < 8) && old.getLsbD k && !mask.getLsbD k) || (val.getLsbD k && mask.getLsbD k)) := by
  simp only [insertField, BitVec.getLsbD_or, BitVec.getLsbD_and, BitVec.getLsbD_not]
  cases old.getLsbD k <;> cases mask.getLsbD k <;> cases val.getLsbD k <;> simp

/-- The byte SET_HEATER_EN writes, with the mask's value worked in (R76). -/
theorem heaterEnData_eq (old arg : Byte) :
    heaterEnData old arg = (old &&& 0xFB) ||| (if arg.getLsbD 0 then 0x04 else 0x00) := by
  have h : ∀ b : Bool, insertField old 0x04 (if b then 0x04 else 0x00) = (old &&& 0xFB) ||| (if b then 0x04 else 0x00) := by
    intro b
    cases b <;> simp [insertField]
  exact h _

/-- The byte SET_HEATER_PWR writes, with the mask's value worked in (R76). -/
theorem heaterPwrData_eq (old arg : Byte) : heaterPwrData old arg = (old &&& 0xF0) ||| (arg &&& 0x0F) := by
  simp only [heaterPwrData, insertField, maskHeaterLevel, argLevel]
  rw [BitVec.and_assoc]
  rfl

/-- PACK_BE16 puts the first byte above the second (R153). -/
theorem packBe16_eq_append (b0 b1 : Byte) : packBe16 b0 b1 = b0 ++ b1 := by
  have h : (b0 ++ b1 : MeasCode).toNat = b0.toNat <<< 8 ||| b1.toNat := BitVec.toNat_append b0 b1
  apply BitVec.eq_of_toNat_eq
  rw [h]
  have h0 := b0.isLt
  have h1 := b1.isLt
  simp [packBe16, Nat.shiftLeft_eq]
  congr 1 <;> omega

/-- The 9-bit round of R211 on eight bits. -/
theorem crcRound_eq : ∀ c : Byte, crcRound c = (c <<< 1) ^^^ (if c.getLsbD 7 then 0x31 else 0x00) := by decide +kernel

/-- One round with a data bit already mixed in is one shift of the serial register. -/
theorem crcRound_xor (c b : Byte) : crcRound (c ^^^ b) = crcBit c (b.getLsbD 7) ^^^ (b <<< 1) := by
  rw [crcRound_eq, crcBit, BitVec.getLsbD_xor, BitVec.shiftLeft_xor_distrib]
  cases c.getLsbD 7 <;> cases b.getLsbD 7 <;> simp [BitVec.xor_assoc, BitVec.xor_comm]
  all_goals ac_rfl

/-- The bytes of a message one after the other. -/
theorem crc8_append (bs : List Byte) (b : Byte) : crc8 (bs ++ [b]) = crcByte (crc8 bs) b := by
  simp [crc8, List.foldl_append]

end Sys2Proof.Machine
end

