-- ==== Sys2Proof/Laws/Decode.lean ====
section
/-! SUPPORT. Laws of the encodings: the fields of a request word, and what the decoders answer. -/

namespace Sys2Proof

/-- The number of a request word in its fields. -/
theorem reqWord_toNat (op : OpCode) (arg : Byte) : (reqWord op arg).toNat = op.toNat * 256 + arg.toNat := by
  have h : (reqWord op arg).toNat = op.toNat <<< 8 ||| arg.toNat := BitVec.toNat_append op arg
  rw [h, ← Nat.shiftLeft_add_eq_or_of_lt arg.isLt, Nat.shiftLeft_eq]

theorem reqOp_toNat (w : ReqWord) : (reqOp w).toNat = w.toNat / 256 := by
  have := w.isLt
  simp [reqOp, BitVec.extractLsb'_toNat, Nat.shiftRight_eq_div_pow]
  omega

theorem reqArg_toNat (w : ReqWord) : (reqArg w).toNat = w.toNat % 256 := by
  simp [reqArg, BitVec.extractLsb'_toNat]

/-- OP of the word OP:ARG. -/
@[simp] theorem reqOp_reqWord (op : OpCode) (arg : Byte) : reqOp (reqWord op arg) = op := by
  have := arg.isLt
  apply BitVec.eq_of_toNat_eq
  rw [reqOp_toNat, reqWord_toNat]
  omega

/-- ARG of the word OP:ARG. -/
@[simp] theorem reqArg_reqWord (op : OpCode) (arg : Byte) : reqArg (reqWord op arg) = arg := by
  have := arg.isLt
  apply BitVec.eq_of_toNat_eq
  rw [reqArg_toNat, reqWord_toNat]
  omega

/-- A request word is its two fields. -/
@[simp] theorem reqWord_fields (w : ReqWord) : reqWord (reqOp w) (reqArg w) = w := by
  apply BitVec.eq_of_toNat_eq
  rw [reqWord_toNat, reqOp_toNat, reqArg_toNat]
  omega

/-- An OP code is reserved exactly outside 1 to 8, whatever ARG is. -/
theorem hostInstr_eq_none_iff (op : OpCode) (arg : Byte) : hostInstr op arg = none ↔ op = 0 ∨ 9 ≤ op.toNat := by
  have h : ∀ o : OpCode, hostInstr o 0 = none ↔ o = 0 ∨ 9 ≤ o.toNat := by decide
  rw [← h op]
  unfold hostInstr
  split <;> simp

/-- What the decoder answers for OP:ARG. -/
theorem decodeRequest_reqWord (op : OpCode) (arg : Byte) :
    decodeRequest (reqWord op arg) =
      match hostInstr op arg with
      | some i => .ok i
      | none => .error (.reservedOp op) := by
  cases h : hostInstr op arg <;> simp [decodeRequest, h]

/-- A byte with a known number. -/
theorem byte_of_toNat {b : Byte} {n : Nat} (h : b.toNat = n) : b = BitVec.ofNat 8 n := by
  subst h
  simp

/-- An OP code with a known number. -/
theorem opCode_of_toNat {op : OpCode} {n : Nat} (h : op.toNat = n) : op = BitVec.ofNat 4 n := by
  subst h
  simp

end Sys2Proof
end

