-- ==== Sys2Proof/Laws/Flags.lean ====
section
/-! SUPPORT. Laws of STATUS, CAPS and FIRSTERR: each field after acceptance and after completion. -/

namespace Sys2Proof.Machine

/-- The four code bits of an error fit STATUS.ERR. -/
theorem ErrCode.code_le (e : ErrCode) : e.code.toNat ≤ 4 := by cases e <;> decide

theorem ErrCode.code_injective {a b : ErrCode} (h : a.code = b.code) : a = b := by
  revert h
  cases a <;> cases b <;> decide

/-- Every field of STATUS after completion (R112). -/
theorem statusComplete_fields (ok : Bool) (err : ErrCode) (b : Byte) :
    statusBusy (statusComplete ok err b) = false ∧ statusDone (statusComplete ok err b) = true ∧
      statusOk (statusComplete ok err b) = ok ∧ statusErr (statusComplete ok err b) = err.code ∧
      statusComplete ok err b &&& 0x88 = b &&& 0x88 := by
  have h : ∀ (b : Byte) (ok : Bool) (e : BitVec 3),
      let x : Byte := (b &&& 0x88) ||| 0x02 ||| (if ok then 0x04 else 0x00) ||| (e.setWidth 8 <<< 4)
      statusBusy x = false ∧ statusDone x = true ∧ statusOk x = ok ∧ statusErr x = e ∧ x &&& 0x88 = b &&& 0x88 := by
    decide +kernel
  exact h b ok err.code

/-- Every field of STATUS after acceptance (R100). -/
theorem statusAccept_fields (b : Byte) :
    statusBusy (statusAccept b) = true ∧ statusDone (statusAccept b) = false ∧ statusOk (statusAccept b) = statusOk b ∧
      statusErr (statusAccept b) = statusErr b ∧ statusAccept b &&& 0x88 = b &&& 0x88 := by
  revert b
  decide +kernel

/-- The bits of CAPS (R31). -/
theorem capsByte_bits (p : Params) :
    (capsByte p).getLsbD 0 = p.capChecksum ∧ (capsByte p).getLsbD 1 = p.capDevinfo ∧
      (capsByte p).getLsbD 2 = p.capHeater ∧ (capsByte p).extractLsb' 3 5 = 0 := by
  have h : ∀ c d e : Bool,
      let x : Byte := (if c then 0x01 else 0) ||| (if d then 0x02 else 0) ||| (if e then 0x04 else 0)
      x.getLsbD 0 = c ∧ x.getLsbD 1 = d ∧ x.getLsbD 2 = e ∧ x.extractLsb' 3 5 = 0 := by decide
  exact h _ _ _

theorem writeOk_eq (st : Byte) : writeOk st = decide (st = 0) := by
  unfold writeOk
  exact rfl

/-- FIRSTERR after a write phase, as one condition (R107). -/
theorem noteWrite_eq (st : Byte) (e : ErrCode) :
    noteWrite st e = if st ≠ 0 ∧ e = .none then .busWrite else e := by
  unfold noteWrite
  rw [writeOk_eq]
  by_cases h0 : st = 0 <;> by_cases h1 : e = .none <;> simp [h0, h1]

/-- Noting writes keeps FIRSTERR among NONE and BUS_WRITE. -/
theorem noteWrite_legal (st : Byte) (e : ErrCode) (h : e = .none ∨ e = .busWrite) :
    noteWrite st e = .none ∨ noteWrite st e = .busWrite := by
  rw [noteWrite_eq]
  split
  · exact .inr rfl
  · exact h

end Sys2Proof.Machine
end

