-- ==== Sys2Proof/Laws/State.lean ====
section
/-! SUPPORT. What each update of Machine/Ops.lean leaves in each field of the state. -/

namespace Sys2Proof.Machine

/-! ### setSeq -/

@[simp] theorem State.setSeq_params (s : State) (q : Seq) : (s.setSeq q).params = s.params := rfl
@[simp] theorem State.setSeq_seq (s : State) (q : Seq) : (s.setSeq q).seq = q := rfl
@[simp] theorem State.setSeq_devAddr (s : State) (q : Seq) : (s.setSeq q).devAddr = s.devAddr := rfl
@[simp] theorem State.setSeq_caps (s : State) (q : Seq) : (s.setSeq q).caps = s.caps := rfl
@[simp] theorem State.setSeq_devinfoDone (s : State) (q : Seq) : (s.setSeq q).devinfoDone = s.devinfoDone := rfl
@[simp] theorem State.setSeq_valid (s : State) (q : Seq) : (s.setSeq q).valid = s.valid := rfl
@[simp] theorem State.setSeq_status (s : State) (q : Seq) : (s.setSeq q).status = s.status := rfl
@[simp] theorem State.setSeq_firstErr (s : State) (q : Seq) : (s.setSeq q).firstErr = s.firstErr := rfl
@[simp] theorem State.setSeq_serial (s : State) (q : Seq) : (s.setSeq q).serial = s.serial := rfl
@[simp] theorem State.setSeq_fwRev (s : State) (q : Seq) : (s.setSeq q).fwRev = s.fwRev := rfl
@[simp] theorem State.setSeq_raw (s : State) (q : Seq) : (s.setSeq q).raw = s.raw := rfl
@[simp] theorem State.setSeq_result (s : State) (q : Seq) : (s.setSeq q).result = s.result := rfl
@[simp] theorem State.setSeq_wstat (s : State) (q : Seq) : (s.setSeq q).wstat = s.wstat := rfl
@[simp] theorem State.setSeq_regBuf (s : State) (q : Seq) : (s.setSeq q).regBuf = s.regBuf := rfl
@[simp] theorem State.setSeq_txBuf (s : State) (q : Seq) : (s.setSeq q).txBuf = s.txBuf := rfl
@[simp] theorem State.setSeq_txLen (s : State) (q : Seq) : (s.setSeq q).txLen = s.txLen := rfl
@[simp] theorem State.setSeq_rxBuf (s : State) (q : Seq) : (s.setSeq q).rxBuf = s.rxBuf := rfl
@[simp] theorem State.setSeq_rxLen (s : State) (q : Seq) : (s.setSeq q).rxLen = s.rxLen := rfl
@[simp] theorem State.setSeq_crcReg (s : State) (q : Seq) : (s.setSeq q).crcReg = s.crcReg := rfl
@[simp] theorem State.setSeq_reqs (s : State) (q : Seq) : (s.setSeq q).reqs = s.reqs := rfl
@[simp] theorem State.setSeq_resetIn (s : State) (q : Seq) : (s.setSeq q).resetIn = s.resetIn := rfl
@[simp] theorem State.setSeq_writeAnswers (s : State) (q : Seq) : (s.setSeq q).writeAnswers = s.writeAnswers := rfl
@[simp] theorem State.setSeq_readAnswers (s : State) (q : Seq) : (s.setSeq q).readAnswers = s.readAnswers := rfl
@[simp] theorem State.setSeq_freeCtr (s : State) (q : Seq) : (s.setSeq q).freeCtr = s.freeCtr := rfl
@[simp] theorem State.setSeq_trace (s : State) (q : Seq) : (s.setSeq q).trace = s.trace := rfl

/-! ### setStatus -/

@[simp] theorem State.setStatus_params (s : State) (b : Byte) : (s.setStatus b).params = s.params := rfl
@[simp] theorem State.setStatus_seq (s : State) (b : Byte) : (s.setStatus b).seq = s.seq := rfl
@[simp] theorem State.setStatus_devAddr (s : State) (b : Byte) : (s.setStatus b).devAddr = s.devAddr := rfl
@[simp] theorem State.setStatus_caps (s : State) (b : Byte) : (s.setStatus b).caps = s.caps := rfl
@[simp] theorem State.setStatus_devinfoDone (s : State) (b : Byte) : (s.setStatus b).devinfoDone = s.devinfoDone := rfl
@[simp] theorem State.setStatus_valid (s : State) (b : Byte) : (s.setStatus b).valid = s.valid := rfl
@[simp] theorem State.setStatus_status (s : State) (b : Byte) : (s.setStatus b).status = b := rfl
@[simp] theorem State.setStatus_firstErr (s : State) (b : Byte) : (s.setStatus b).firstErr = s.firstErr := rfl
@[simp] theorem State.setStatus_serial (s : State) (b : Byte) : (s.setStatus b).serial = s.serial := rfl
@[simp] theorem State.setStatus_fwRev (s : State) (b : Byte) : (s.setStatus b).fwRev = s.fwRev := rfl
@[simp] theorem State.setStatus_raw (s : State) (b : Byte) : (s.setStatus b).raw = s.raw := rfl
@[simp] theorem State.setStatus_result (s : State) (b : Byte) : (s.setStatus b).result = s.result := rfl
@[simp] theorem State.setStatus_wstat (s : State) (b : Byte) : (s.setStatus b).wstat = s.wstat := rfl
@[simp] theorem State.setStatus_regBuf (s : State) (b : Byte) : (s.setStatus b).regBuf = s.regBuf := rfl
@[simp] theorem State.setStatus_txBuf (s : State) (b : Byte) : (s.setStatus b).txBuf = s.txBuf := rfl
@[simp] theorem State.setStatus_txLen (s : State) (b : Byte) : (s.setStatus b).txLen = s.txLen := rfl
@[simp] theorem State.setStatus_rxBuf (s : State) (b : Byte) : (s.setStatus b).rxBuf = s.rxBuf := rfl
@[simp] theorem State.setStatus_rxLen (s : State) (b : Byte) : (s.setStatus b).rxLen = s.rxLen := rfl
@[simp] theorem State.setStatus_crcReg (s : State) (b : Byte) : (s.setStatus b).crcReg = s.crcReg := rfl
@[simp] theorem State.setStatus_reqs (s : State) (b : Byte) : (s.setStatus b).reqs = s.reqs := rfl
@[simp] theorem State.setStatus_resetIn (s : State) (b : Byte) : (s.setStatus b).resetIn = s.resetIn := rfl
@[simp] theorem State.setStatus_writeAnswers (s : State) (b : Byte) : (s.setStatus b).writeAnswers = s.writeAnswers := rfl
@[simp] theorem State.setStatus_readAnswers (s : State) (b : Byte) : (s.setStatus b).readAnswers = s.readAnswers := rfl
@[simp] theorem State.setStatus_freeCtr (s : State) (b : Byte) : (s.setStatus b).freeCtr = s.freeCtr := rfl
@[simp] theorem State.setStatus_trace (s : State) (b : Byte) : (s.setStatus b).trace = s.trace := rfl

/-! ### setFirstErr -/

@[simp] theorem State.setFirstErr_params (s : State) (e : ErrCode) : (s.setFirstErr e).params = s.params := rfl
@[simp] theorem State.setFirstErr_seq (s : State) (e : ErrCode) : (s.setFirstErr e).seq = s.seq := rfl
@[simp] theorem State.setFirstErr_devAddr (s : State) (e : ErrCode) : (s.setFirstErr e).devAddr = s.devAddr := rfl
@[simp] theorem State.setFirstErr_caps (s : State) (e : ErrCode) : (s.setFirstErr e).caps = s.caps := rfl
@[simp] theorem State.setFirstErr_devinfoDone (s : State) (e : ErrCode) : (s.setFirstErr e).devinfoDone = s.devinfoDone := rfl
@[simp] theorem State.setFirstErr_valid (s : State) (e : ErrCode) : (s.setFirstErr e).valid = s.valid := rfl
@[simp] theorem State.setFirstErr_status (s : State) (e : ErrCode) : (s.setFirstErr e).status = s.status := rfl
@[simp] theorem State.setFirstErr_firstErr (s : State) (e : ErrCode) : (s.setFirstErr e).firstErr = e := rfl
@[simp] theorem State.setFirstErr_serial (s : State) (e : ErrCode) : (s.setFirstErr e).serial = s.serial := rfl
@[simp] theorem State.setFirstErr_fwRev (s : State) (e : ErrCode) : (s.setFirstErr e).fwRev = s.fwRev := rfl
@[simp] theorem State.setFirstErr_raw (s : State) (e : ErrCode) : (s.setFirstErr e).raw = s.raw := rfl
@[simp] theorem State.setFirstErr_result (s : State) (e : ErrCode) : (s.setFirstErr e).result = s.result := rfl
@[simp] theorem State.setFirstErr_wstat (s : State) (e : ErrCode) : (s.setFirstErr e).wstat = s.wstat := rfl
@[simp] theorem State.setFirstErr_regBuf (s : State) (e : ErrCode) : (s.setFirstErr e).regBuf = s.regBuf := rfl
@[simp] theorem State.setFirstErr_txBuf (s : State) (e : ErrCode) : (s.setFirstErr e).txBuf = s.txBuf := rfl
@[simp] theorem State.setFirstErr_txLen (s : State) (e : ErrCode) : (s.setFirstErr e).txLen = s.txLen := rfl
@[simp] theorem State.setFirstErr_rxBuf (s : State) (e : ErrCode) : (s.setFirstErr e).rxBuf = s.rxBuf := rfl
@[simp] theorem State.setFirstErr_rxLen (s : State) (e : ErrCode) : (s.setFirstErr e).rxLen = s.rxLen := rfl
@[simp] theorem State.setFirstErr_crcReg (s : State) (e : ErrCode) : (s.setFirstErr e).crcReg = s.crcReg := rfl
@[simp] theorem State.setFirstErr_reqs (s : State) (e : ErrCode) : (s.setFirstErr e).reqs = s.reqs := rfl
@[simp] theorem State.setFirstErr_resetIn (s : State) (e : ErrCode) : (s.setFirstErr e).resetIn = s.resetIn := rfl
@[simp] theorem State.setFirstErr_writeAnswers (s : State) (e : ErrCode) : (s.setFirstErr e).writeAnswers = s.writeAnswers := rfl
@[simp] theorem State.setFirstErr_readAnswers (s : State) (e : ErrCode) : (s.setFirstErr e).readAnswers = s.readAnswers := rfl
@[simp] theorem State.setFirstErr_freeCtr (s : State) (e : ErrCode) : (s.setFirstErr e).freeCtr = s.freeCtr := rfl
@[simp] theorem State.setFirstErr_trace (s : State) (e : ErrCode) : (s.setFirstErr e).trace = s.trace := rfl

/-! ### setWstat -/

@[simp] theorem State.setWstat_params (s : State) (st : Byte) : (s.setWstat st).params = s.params := rfl
@[simp] theorem State.setWstat_seq (s : State) (st : Byte) : (s.setWstat st).seq = s.seq := rfl
@[simp] theorem State.setWstat_devAddr (s : State) (st : Byte) : (s.setWstat st).devAddr = s.devAddr := rfl
@[simp] theorem State.setWstat_caps (s : State) (st : Byte) : (s.setWstat st).caps = s.caps := rfl
@[simp] theorem State.setWstat_devinfoDone (s : State) (st : Byte) : (s.setWstat st).devinfoDone = s.devinfoDone := rfl
@[simp] theorem State.setWstat_valid (s : State) (st : Byte) : (s.setWstat st).valid = s.valid := rfl
@[simp] theorem State.setWstat_status (s : State) (st : Byte) : (s.setWstat st).status = s.status := rfl
@[simp] theorem State.setWstat_firstErr (s : State) (st : Byte) : (s.setWstat st).firstErr = s.firstErr := rfl
@[simp] theorem State.setWstat_serial (s : State) (st : Byte) : (s.setWstat st).serial = s.serial := rfl
@[simp] theorem State.setWstat_fwRev (s : State) (st : Byte) : (s.setWstat st).fwRev = s.fwRev := rfl
@[simp] theorem State.setWstat_raw (s : State) (st : Byte) : (s.setWstat st).raw = s.raw := rfl
@[simp] theorem State.setWstat_result (s : State) (st : Byte) : (s.setWstat st).result = s.result := rfl
@[simp] theorem State.setWstat_wstat (s : State) (st : Byte) : (s.setWstat st).wstat = .of st := rfl
@[simp] theorem State.setWstat_regBuf (s : State) (st : Byte) : (s.setWstat st).regBuf = s.regBuf := rfl
@[simp] theorem State.setWstat_txBuf (s : State) (st : Byte) : (s.setWstat st).txBuf = s.txBuf := rfl
@[simp] theorem State.setWstat_txLen (s : State) (st : Byte) : (s.setWstat st).txLen = s.txLen := rfl
@[simp] theorem State.setWstat_rxBuf (s : State) (st : Byte) : (s.setWstat st).rxBuf = s.rxBuf := rfl
@[simp] theorem State.setWstat_rxLen (s : State) (st : Byte) : (s.setWstat st).rxLen = s.rxLen := rfl
@[simp] theorem State.setWstat_crcReg (s : State) (st : Byte) : (s.setWstat st).crcReg = s.crcReg := rfl
@[simp] theorem State.setWstat_reqs (s : State) (st : Byte) : (s.setWstat st).reqs = s.reqs := rfl
@[simp] theorem State.setWstat_resetIn (s : State) (st : Byte) : (s.setWstat st).resetIn = s.resetIn := rfl
@[simp] theorem State.setWstat_writeAnswers (s : State) (st : Byte) : (s.setWstat st).writeAnswers = s.writeAnswers := rfl
@[simp] theorem State.setWstat_readAnswers (s : State) (st : Byte) : (s.setWstat st).readAnswers = s.readAnswers := rfl
@[simp] theorem State.setWstat_freeCtr (s : State) (st : Byte) : (s.setWstat st).freeCtr = s.freeCtr := rfl
@[simp] theorem State.setWstat_trace (s : State) (st : Byte) : (s.setWstat st).trace = s.trace := rfl

/-! ### setRegBuf -/

@[simp] theorem State.setRegBuf_params (s : State) (b : Byte) : (s.setRegBuf b).params = s.params := rfl
@[simp] theorem State.setRegBuf_seq (s : State) (b : Byte) : (s.setRegBuf b).seq = s.seq := rfl
@[simp] theorem State.setRegBuf_devAddr (s : State) (b : Byte) : (s.setRegBuf b).devAddr = s.devAddr := rfl
@[simp] theorem State.setRegBuf_caps (s : State) (b : Byte) : (s.setRegBuf b).caps = s.caps := rfl
@[simp] theorem State.setRegBuf_devinfoDone (s : State) (b : Byte) : (s.setRegBuf b).devinfoDone = s.devinfoDone := rfl
@[simp] theorem State.setRegBuf_valid (s : State) (b : Byte) : (s.setRegBuf b).valid = s.valid := rfl
@[simp] theorem State.setRegBuf_status (s : State) (b : Byte) : (s.setRegBuf b).status = s.status := rfl
@[simp] theorem State.setRegBuf_firstErr (s : State) (b : Byte) : (s.setRegBuf b).firstErr = s.firstErr := rfl
@[simp] theorem State.setRegBuf_serial (s : State) (b : Byte) : (s.setRegBuf b).serial = s.serial := rfl
@[simp] theorem State.setRegBuf_fwRev (s : State) (b : Byte) : (s.setRegBuf b).fwRev = s.fwRev := rfl
@[simp] theorem State.setRegBuf_raw (s : State) (b : Byte) : (s.setRegBuf b).raw = s.raw := rfl
@[simp] theorem State.setRegBuf_result (s : State) (b : Byte) : (s.setRegBuf b).result = s.result := rfl
@[simp] theorem State.setRegBuf_wstat (s : State) (b : Byte) : (s.setRegBuf b).wstat = s.wstat := rfl
@[simp] theorem State.setRegBuf_regBuf (s : State) (b : Byte) : (s.setRegBuf b).regBuf = .of b := rfl
@[simp] theorem State.setRegBuf_txBuf (s : State) (b : Byte) : (s.setRegBuf b).txBuf = s.txBuf := rfl
@[simp] theorem State.setRegBuf_txLen (s : State) (b : Byte) : (s.setRegBuf b).txLen = s.txLen := rfl
@[simp] theorem State.setRegBuf_rxBuf (s : State) (b : Byte) : (s.setRegBuf b).rxBuf = s.rxBuf := rfl
@[simp] theorem State.setRegBuf_rxLen (s : State) (b : Byte) : (s.setRegBuf b).rxLen = s.rxLen := rfl
@[simp] theorem State.setRegBuf_crcReg (s : State) (b : Byte) : (s.setRegBuf b).crcReg = s.crcReg := rfl
@[simp] theorem State.setRegBuf_reqs (s : State) (b : Byte) : (s.setRegBuf b).reqs = s.reqs := rfl
@[simp] theorem State.setRegBuf_resetIn (s : State) (b : Byte) : (s.setRegBuf b).resetIn = s.resetIn := rfl
@[simp] theorem State.setRegBuf_writeAnswers (s : State) (b : Byte) : (s.setRegBuf b).writeAnswers = s.writeAnswers := rfl
@[simp] theorem State.setRegBuf_readAnswers (s : State) (b : Byte) : (s.setRegBuf b).readAnswers = s.readAnswers := rfl
@[simp] theorem State.setRegBuf_freeCtr (s : State) (b : Byte) : (s.setRegBuf b).freeCtr = s.freeCtr := rfl
@[simp] theorem State.setRegBuf_trace (s : State) (b : Byte) : (s.setRegBuf b).trace = s.trace := rfl

/-! ### setMeasurement -/

@[simp] theorem State.setMeasurement_params (s : State) (c : MeasCode) (v : Bin64) : (s.setMeasurement c v).params = s.params := rfl
@[simp] theorem State.setMeasurement_seq (s : State) (c : MeasCode) (v : Bin64) : (s.setMeasurement c v).seq = s.seq := rfl
@[simp] theorem State.setMeasurement_devAddr (s : State) (c : MeasCode) (v : Bin64) : (s.setMeasurement c v).devAddr = s.devAddr := rfl
@[simp] theorem State.setMeasurement_caps (s : State) (c : MeasCode) (v : Bin64) : (s.setMeasurement c v).caps = s.caps := rfl
@[simp] theorem State.setMeasurement_devinfoDone (s : State) (c : MeasCode) (v : Bin64) : (s.setMeasurement c v).devinfoDone = s.devinfoDone := rfl
@[simp] theorem State.setMeasurement_valid (s : State) (c : MeasCode) (v : Bin64) : (s.setMeasurement c v).valid = s.valid := rfl
@[simp] theorem State.setMeasurement_status (s : State) (c : MeasCode) (v : Bin64) : (s.setMeasurement c v).status = s.status := rfl
@[simp] theorem State.setMeasurement_firstErr (s : State) (c : MeasCode) (v : Bin64) : (s.setMeasurement c v).firstErr = s.firstErr := rfl
@[simp] theorem State.setMeasurement_serial (s : State) (c : MeasCode) (v : Bin64) : (s.setMeasurement c v).serial = s.serial := rfl
@[simp] theorem State.setMeasurement_fwRev (s : State) (c : MeasCode) (v : Bin64) : (s.setMeasurement c v).fwRev = s.fwRev := rfl
@[simp] theorem State.setMeasurement_raw (s : State) (c : MeasCode) (v : Bin64) : (s.setMeasurement c v).raw = .of c := rfl
@[simp] theorem State.setMeasurement_result (s : State) (c : MeasCode) (v : Bin64) : (s.setMeasurement c v).result = .of v := rfl
@[simp] theorem State.setMeasurement_wstat (s : State) (c : MeasCode) (v : Bin64) : (s.setMeasurement c v).wstat = s.wstat := rfl
@[simp] theorem State.setMeasurement_regBuf (s : State) (c : MeasCode) (v : Bin64) : (s.setMeasurement c v).regBuf = s.regBuf := rfl
@[simp] theorem State.setMeasurement_txBuf (s : State) (c : MeasCode) (v : Bin64) : (s.setMeasurement c v).txBuf = s.txBuf := rfl
@[simp] theorem State.setMeasurement_txLen (s : State) (c : MeasCode) (v : Bin64) : (s.setMeasurement c v).txLen = s.txLen := rfl
@[simp] theorem State.setMeasurement_rxBuf (s : State) (c : MeasCode) (v : Bin64) : (s.setMeasurement c v).rxBuf = s.rxBuf := rfl
@[simp] theorem State.setMeasurement_rxLen (s : State) (c : MeasCode) (v : Bin64) : (s.setMeasurement c v).rxLen = s.rxLen := rfl
@[simp] theorem State.setMeasurement_crcReg (s : State) (c : MeasCode) (v : Bin64) : (s.setMeasurement c v).crcReg = s.crcReg := rfl
@[simp] theorem State.setMeasurement_reqs (s : State) (c : MeasCode) (v : Bin64) : (s.setMeasurement c v).reqs = s.reqs := rfl
@[simp] theorem State.setMeasurement_resetIn (s : State) (c : MeasCode) (v : Bin64) : (s.setMeasurement c v).resetIn = s.resetIn := rfl
@[simp] theorem State.setMeasurement_writeAnswers (s : State) (c : MeasCode) (v : Bin64) : (s.setMeasurement c v).writeAnswers = s.writeAnswers := rfl
@[simp] theorem State.setMeasurement_readAnswers (s : State) (c : MeasCode) (v : Bin64) : (s.setMeasurement c v).readAnswers = s.readAnswers := rfl
@[simp] theorem State.setMeasurement_freeCtr (s : State) (c : MeasCode) (v : Bin64) : (s.setMeasurement c v).freeCtr = s.freeCtr := rfl
@[simp] theorem State.setMeasurement_trace (s : State) (c : MeasCode) (v : Bin64) : (s.setMeasurement c v).trace = s.trace := rfl

/-! ### setValidation -/

@[simp] theorem State.setValidation_params (s : State) (c : Byte) (ok : Bool) : (s.setValidation c ok).params = s.params := rfl
@[simp] theorem State.setValidation_seq (s : State) (c : Byte) (ok : Bool) : (s.setValidation c ok).seq = s.seq := rfl
@[simp] theorem State.setValidation_devAddr (s : State) (c : Byte) (ok : Bool) : (s.setValidation c ok).devAddr = s.devAddr := rfl
@[simp] theorem State.setValidation_caps (s : State) (c : Byte) (ok : Bool) : (s.setValidation c ok).caps = s.caps := rfl
@[simp] theorem State.setValidation_devinfoDone (s : State) (c : Byte) (ok : Bool) : (s.setValidation c ok).devinfoDone = s.devinfoDone := rfl
@[simp] theorem State.setValidation_valid (s : State) (c : Byte) (ok : Bool) : (s.setValidation c ok).valid = ok := rfl
@[simp] theorem State.setValidation_status (s : State) (c : Byte) (ok : Bool) : (s.setValidation c ok).status = s.status := rfl
@[simp] theorem State.setValidation_firstErr (s : State) (c : Byte) (ok : Bool) : (s.setValidation c ok).firstErr = s.firstErr := rfl
@[simp] theorem State.setValidation_serial (s : State) (c : Byte) (ok : Bool) : (s.setValidation c ok).serial = s.serial := rfl
@[simp] theorem State.setValidation_fwRev (s : State) (c : Byte) (ok : Bool) : (s.setValidation c ok).fwRev = s.fwRev := rfl
@[simp] theorem State.setValidation_raw (s : State) (c : Byte) (ok : Bool) : (s.setValidation c ok).raw = s.raw := rfl
@[simp] theorem State.setValidation_result (s : State) (c : Byte) (ok : Bool) : (s.setValidation c ok).result = s.result := rfl
@[simp] theorem State.setValidation_wstat (s : State) (c : Byte) (ok : Bool) : (s.setValidation c ok).wstat = s.wstat := rfl
@[simp] theorem State.setValidation_regBuf (s : State) (c : Byte) (ok : Bool) : (s.setValidation c ok).regBuf = s.regBuf := rfl
@[simp] theorem State.setValidation_txBuf (s : State) (c : Byte) (ok : Bool) : (s.setValidation c ok).txBuf = s.txBuf := rfl
@[simp] theorem State.setValidation_txLen (s : State) (c : Byte) (ok : Bool) : (s.setValidation c ok).txLen = s.txLen := rfl
@[simp] theorem State.setValidation_rxBuf (s : State) (c : Byte) (ok : Bool) : (s.setValidation c ok).rxBuf = s.rxBuf := rfl
@[simp] theorem State.setValidation_rxLen (s : State) (c : Byte) (ok : Bool) : (s.setValidation c ok).rxLen = s.rxLen := rfl
@[simp] theorem State.setValidation_crcReg (s : State) (c : Byte) (ok : Bool) : (s.setValidation c ok).crcReg = .of c := rfl
@[simp] theorem State.setValidation_reqs (s : State) (c : Byte) (ok : Bool) : (s.setValidation c ok).reqs = s.reqs := rfl
@[simp] theorem State.setValidation_resetIn (s : State) (c : Byte) (ok : Bool) : (s.setValidation c ok).resetIn = s.resetIn := rfl
@[simp] theorem State.setValidation_writeAnswers (s : State) (c : Byte) (ok : Bool) : (s.setValidation c ok).writeAnswers = s.writeAnswers := rfl
@[simp] theorem State.setValidation_readAnswers (s : State) (c : Byte) (ok : Bool) : (s.setValidation c ok).readAnswers = s.readAnswers := rfl
@[simp] theorem State.setValidation_freeCtr (s : State) (c : Byte) (ok : Bool) : (s.setValidation c ok).freeCtr = s.freeCtr := rfl
@[simp] theorem State.setValidation_trace (s : State) (c : Byte) (ok : Bool) : (s.setValidation c ok).trace = s.trace := rfl

/-! ### setSerialLow -/

@[simp] theorem State.setSerialLow_params (s : State) (d : Byte × Byte × Byte × Byte) : (s.setSerialLow d).params = s.params := rfl
@[simp] theorem State.setSerialLow_seq (s : State) (d : Byte × Byte × Byte × Byte) : (s.setSerialLow d).seq = s.seq := rfl
@[simp] theorem State.setSerialLow_devAddr (s : State) (d : Byte × Byte × Byte × Byte) : (s.setSerialLow d).devAddr = s.devAddr := rfl
@[simp] theorem State.setSerialLow_caps (s : State) (d : Byte × Byte × Byte × Byte) : (s.setSerialLow d).caps = s.caps := rfl
@[simp] theorem State.setSerialLow_devinfoDone (s : State) (d : Byte × Byte × Byte × Byte) : (s.setSerialLow d).devinfoDone = s.devinfoDone := rfl
@[simp] theorem State.setSerialLow_valid (s : State) (d : Byte × Byte × Byte × Byte) : (s.setSerialLow d).valid = s.valid := rfl
@[simp] theorem State.setSerialLow_status (s : State) (d : Byte × Byte × Byte × Byte) : (s.setSerialLow d).status = s.status := rfl
@[simp] theorem State.setSerialLow_firstErr (s : State) (d : Byte × Byte × Byte × Byte) : (s.setSerialLow d).firstErr = s.firstErr := rfl
@[simp] theorem State.setSerialLow_serial (s : State) (d : Byte × Byte × Byte × Byte) : (s.setSerialLow d).serial = #v[.of d.1, .of d.2.1, .of d.2.2.1, .of d.2.2.2, s.serial[4], s.serial[5], s.serial[6], s.serial[7]] := rfl
@[simp] theorem State.setSerialLow_fwRev (s : State) (d : Byte × Byte × Byte × Byte) : (s.setSerialLow d).fwRev = s.fwRev := rfl
@[simp] theorem State.setSerialLow_raw (s : State) (d : Byte × Byte × Byte × Byte) : (s.setSerialLow d).raw = s.raw := rfl
@[simp] theorem State.setSerialLow_result (s : State) (d : Byte × Byte × Byte × Byte) : (s.setSerialLow d).result = s.result := rfl
@[simp] theorem State.setSerialLow_wstat (s : State) (d : Byte × Byte × Byte × Byte) : (s.setSerialLow d).wstat = s.wstat := rfl
@[simp] theorem State.setSerialLow_regBuf (s : State) (d : Byte × Byte × Byte × Byte) : (s.setSerialLow d).regBuf = s.regBuf := rfl
@[simp] theorem State.setSerialLow_txBuf (s : State) (d : Byte × Byte × Byte × Byte) : (s.setSerialLow d).txBuf = s.txBuf := rfl
@[simp] theorem State.setSerialLow_txLen (s : State) (d : Byte × Byte × Byte × Byte) : (s.setSerialLow d).txLen = s.txLen := rfl
@[simp] theorem State.setSerialLow_rxBuf (s : State) (d : Byte × Byte × Byte × Byte) : (s.setSerialLow d).rxBuf = s.rxBuf := rfl
@[simp] theorem State.setSerialLow_rxLen (s : State) (d : Byte × Byte × Byte × Byte) : (s.setSerialLow d).rxLen = s.rxLen := rfl
@[simp] theorem State.setSerialLow_crcReg (s : State) (d : Byte × Byte × Byte × Byte) : (s.setSerialLow d).crcReg = s.crcReg := rfl
@[simp] theorem State.setSerialLow_reqs (s : State) (d : Byte × Byte × Byte × Byte) : (s.setSerialLow d).reqs = s.reqs := rfl
@[simp] theorem State.setSerialLow_resetIn (s : State) (d : Byte × Byte × Byte × Byte) : (s.setSerialLow d).resetIn = s.resetIn := rfl
@[simp] theorem State.setSerialLow_writeAnswers (s : State) (d : Byte × Byte × Byte × Byte) : (s.setSerialLow d).writeAnswers = s.writeAnswers := rfl
@[simp] theorem State.setSerialLow_readAnswers (s : State) (d : Byte × Byte × Byte × Byte) : (s.setSerialLow d).readAnswers = s.readAnswers := rfl
@[simp] theorem State.setSerialLow_freeCtr (s : State) (d : Byte × Byte × Byte × Byte) : (s.setSerialLow d).freeCtr = s.freeCtr := rfl
@[simp] theorem State.setSerialLow_trace (s : State) (d : Byte × Byte × Byte × Byte) : (s.setSerialLow d).trace = s.trace := rfl

/-! ### setSerialHigh -/

@[simp] theorem State.setSerialHigh_params (s : State) (d : Byte × Byte × Byte × Byte) : (s.setSerialHigh d).params = s.params := rfl
@[simp] theorem State.setSerialHigh_seq (s : State) (d : Byte × Byte × Byte × Byte) : (s.setSerialHigh d).seq = s.seq := rfl
@[simp] theorem State.setSerialHigh_devAddr (s : State) (d : Byte × Byte × Byte × Byte) : (s.setSerialHigh d).devAddr = s.devAddr := rfl
@[simp] theorem State.setSerialHigh_caps (s : State) (d : Byte × Byte × Byte × Byte) : (s.setSerialHigh d).caps = s.caps := rfl
@[simp] theorem State.setSerialHigh_devinfoDone (s : State) (d : Byte × Byte × Byte × Byte) : (s.setSerialHigh d).devinfoDone = s.devinfoDone := rfl
@[simp] theorem State.setSerialHigh_valid (s : State) (d : Byte × Byte × Byte × Byte) : (s.setSerialHigh d).valid = s.valid := rfl
@[simp] theorem State.setSerialHigh_status (s : State) (d : Byte × Byte × Byte × Byte) : (s.setSerialHigh d).status = s.status := rfl
@[simp] theorem State.setSerialHigh_firstErr (s : State) (d : Byte × Byte × Byte × Byte) : (s.setSerialHigh d).firstErr = s.firstErr := rfl
@[simp] theorem State.setSerialHigh_serial (s : State) (d : Byte × Byte × Byte × Byte) : (s.setSerialHigh d).serial = #v[s.serial[0], s.serial[1], s.serial[2], s.serial[3], .of d.1, .of d.2.1, .of d.2.2.1, .of d.2.2.2] := rfl
@[simp] theorem State.setSerialHigh_fwRev (s : State) (d : Byte × Byte × Byte × Byte) : (s.setSerialHigh d).fwRev = s.fwRev := rfl
@[simp] theorem State.setSerialHigh_raw (s : State) (d : Byte × Byte × Byte × Byte) : (s.setSerialHigh d).raw = s.raw := rfl
@[simp] theorem State.setSerialHigh_result (s : State) (d : Byte × Byte × Byte × Byte) : (s.setSerialHigh d).result = s.result := rfl
@[simp] theorem State.setSerialHigh_wstat (s : State) (d : Byte × Byte × Byte × Byte) : (s.setSerialHigh d).wstat = s.wstat := rfl
@[simp] theorem State.setSerialHigh_regBuf (s : State) (d : Byte × Byte × Byte × Byte) : (s.setSerialHigh d).regBuf = s.regBuf := rfl
@[simp] theorem State.setSerialHigh_txBuf (s : State) (d : Byte × Byte × Byte × Byte) : (s.setSerialHigh d).txBuf = s.txBuf := rfl
@[simp] theorem State.setSerialHigh_txLen (s : State) (d : Byte × Byte × Byte × Byte) : (s.setSerialHigh d).txLen = s.txLen := rfl
@[simp] theorem State.setSerialHigh_rxBuf (s : State) (d : Byte × Byte × Byte × Byte) : (s.setSerialHigh d).rxBuf = s.rxBuf := rfl
@[simp] theorem State.setSerialHigh_rxLen (s : State) (d : Byte × Byte × Byte × Byte) : (s.setSerialHigh d).rxLen = s.rxLen := rfl
@[simp] theorem State.setSerialHigh_crcReg (s : State) (d : Byte × Byte × Byte × Byte) : (s.setSerialHigh d).crcReg = s.crcReg := rfl
@[simp] theorem State.setSerialHigh_reqs (s : State) (d : Byte × Byte × Byte × Byte) : (s.setSerialHigh d).reqs = s.reqs := rfl
@[simp] theorem State.setSerialHigh_resetIn (s : State) (d : Byte × Byte × Byte × Byte) : (s.setSerialHigh d).resetIn = s.resetIn := rfl
@[simp] theorem State.setSerialHigh_writeAnswers (s : State) (d : Byte × Byte × Byte × Byte) : (s.setSerialHigh d).writeAnswers = s.writeAnswers := rfl
@[simp] theorem State.setSerialHigh_readAnswers (s : State) (d : Byte × Byte × Byte × Byte) : (s.setSerialHigh d).readAnswers = s.readAnswers := rfl
@[simp] theorem State.setSerialHigh_freeCtr (s : State) (d : Byte × Byte × Byte × Byte) : (s.setSerialHigh d).freeCtr = s.freeCtr := rfl
@[simp] theorem State.setSerialHigh_trace (s : State) (d : Byte × Byte × Byte × Byte) : (s.setSerialHigh d).trace = s.trace := rfl

/-! ### setFwRev -/

@[simp] theorem State.setFwRev_params (s : State) (b : Byte) : (s.setFwRev b).params = s.params := rfl
@[simp] theorem State.setFwRev_seq (s : State) (b : Byte) : (s.setFwRev b).seq = s.seq := rfl
@[simp] theorem State.setFwRev_devAddr (s : State) (b : Byte) : (s.setFwRev b).devAddr = s.devAddr := rfl
@[simp] theorem State.setFwRev_caps (s : State) (b : Byte) : (s.setFwRev b).caps = s.caps := rfl
@[simp] theorem State.setFwRev_devinfoDone (s : State) (b : Byte) : (s.setFwRev b).devinfoDone = s.devinfoDone := rfl
@[simp] theorem State.setFwRev_valid (s : State) (b : Byte) : (s.setFwRev b).valid = s.valid := rfl
@[simp] theorem State.setFwRev_status (s : State) (b : Byte) : (s.setFwRev b).status = s.status := rfl
@[simp] theorem State.setFwRev_firstErr (s : State) (b : Byte) : (s.setFwRev b).firstErr = s.firstErr := rfl
@[simp] theorem State.setFwRev_serial (s : State) (b : Byte) : (s.setFwRev b).serial = s.serial := rfl
@[simp] theorem State.setFwRev_fwRev (s : State) (b : Byte) : (s.setFwRev b).fwRev = .of b := rfl
@[simp] theorem State.setFwRev_raw (s : State) (b : Byte) : (s.setFwRev b).raw = s.raw := rfl
@[simp] theorem State.setFwRev_result (s : State) (b : Byte) : (s.setFwRev b).result = s.result := rfl
@[simp] theorem State.setFwRev_wstat (s : State) (b : Byte) : (s.setFwRev b).wstat = s.wstat := rfl
@[simp] theorem State.setFwRev_regBuf (s : State) (b : Byte) : (s.setFwRev b).regBuf = s.regBuf := rfl
@[simp] theorem State.setFwRev_txBuf (s : State) (b : Byte) : (s.setFwRev b).txBuf = s.txBuf := rfl
@[simp] theorem State.setFwRev_txLen (s : State) (b : Byte) : (s.setFwRev b).txLen = s.txLen := rfl
@[simp] theorem State.setFwRev_rxBuf (s : State) (b : Byte) : (s.setFwRev b).rxBuf = s.rxBuf := rfl
@[simp] theorem State.setFwRev_rxLen (s : State) (b : Byte) : (s.setFwRev b).rxLen = s.rxLen := rfl
@[simp] theorem State.setFwRev_crcReg (s : State) (b : Byte) : (s.setFwRev b).crcReg = s.crcReg := rfl
@[simp] theorem State.setFwRev_reqs (s : State) (b : Byte) : (s.setFwRev b).reqs = s.reqs := rfl
@[simp] theorem State.setFwRev_resetIn (s : State) (b : Byte) : (s.setFwRev b).resetIn = s.resetIn := rfl
@[simp] theorem State.setFwRev_writeAnswers (s : State) (b : Byte) : (s.setFwRev b).writeAnswers = s.writeAnswers := rfl
@[simp] theorem State.setFwRev_readAnswers (s : State) (b : Byte) : (s.setFwRev b).readAnswers = s.readAnswers := rfl
@[simp] theorem State.setFwRev_freeCtr (s : State) (b : Byte) : (s.setFwRev b).freeCtr = s.freeCtr := rfl
@[simp] theorem State.setFwRev_trace (s : State) (b : Byte) : (s.setFwRev b).trace = s.trace := rfl

/-! ### loadTx -/

@[simp] theorem State.loadTx_params (s : State) (cmd : List Byte) : (s.loadTx cmd).params = s.params := rfl
@[simp] theorem State.loadTx_seq (s : State) (cmd : List Byte) : (s.loadTx cmd).seq = s.seq := rfl
@[simp] theorem State.loadTx_devAddr (s : State) (cmd : List Byte) : (s.loadTx cmd).devAddr = s.devAddr := rfl
@[simp] theorem State.loadTx_caps (s : State) (cmd : List Byte) : (s.loadTx cmd).caps = s.caps := rfl
@[simp] theorem State.loadTx_devinfoDone (s : State) (cmd : List Byte) : (s.loadTx cmd).devinfoDone = s.devinfoDone := rfl
@[simp] theorem State.loadTx_valid (s : State) (cmd : List Byte) : (s.loadTx cmd).valid = s.valid := rfl
@[simp] theorem State.loadTx_status (s : State) (cmd : List Byte) : (s.loadTx cmd).status = s.status := rfl
@[simp] theorem State.loadTx_firstErr (s : State) (cmd : List Byte) : (s.loadTx cmd).firstErr = s.firstErr := rfl
@[simp] theorem State.loadTx_serial (s : State) (cmd : List Byte) : (s.loadTx cmd).serial = s.serial := rfl
@[simp] theorem State.loadTx_fwRev (s : State) (cmd : List Byte) : (s.loadTx cmd).fwRev = s.fwRev := rfl
@[simp] theorem State.loadTx_raw (s : State) (cmd : List Byte) : (s.loadTx cmd).raw = s.raw := rfl
@[simp] theorem State.loadTx_result (s : State) (cmd : List Byte) : (s.loadTx cmd).result = s.result := rfl
@[simp] theorem State.loadTx_wstat (s : State) (cmd : List Byte) : (s.loadTx cmd).wstat = s.wstat := rfl
@[simp] theorem State.loadTx_regBuf (s : State) (cmd : List Byte) : (s.loadTx cmd).regBuf = s.regBuf := rfl
@[simp] theorem State.loadTx_txBuf (s : State) (cmd : List Byte) : (s.loadTx cmd).txBuf = putTx s.txBuf cmd := rfl
@[simp] theorem State.loadTx_txLen (s : State) (cmd : List Byte) : (s.loadTx cmd).txLen = .of cmd.length := rfl
@[simp] theorem State.loadTx_rxBuf (s : State) (cmd : List Byte) : (s.loadTx cmd).rxBuf = s.rxBuf := rfl
@[simp] theorem State.loadTx_rxLen (s : State) (cmd : List Byte) : (s.loadTx cmd).rxLen = s.rxLen := rfl
@[simp] theorem State.loadTx_crcReg (s : State) (cmd : List Byte) : (s.loadTx cmd).crcReg = s.crcReg := rfl
@[simp] theorem State.loadTx_reqs (s : State) (cmd : List Byte) : (s.loadTx cmd).reqs = s.reqs := rfl
@[simp] theorem State.loadTx_resetIn (s : State) (cmd : List Byte) : (s.loadTx cmd).resetIn = s.resetIn := rfl
@[simp] theorem State.loadTx_writeAnswers (s : State) (cmd : List Byte) : (s.loadTx cmd).writeAnswers = s.writeAnswers := rfl
@[simp] theorem State.loadTx_readAnswers (s : State) (cmd : List Byte) : (s.loadTx cmd).readAnswers = s.readAnswers := rfl
@[simp] theorem State.loadTx_freeCtr (s : State) (cmd : List Byte) : (s.loadTx cmd).freeCtr = s.freeCtr := rfl
@[simp] theorem State.loadTx_trace (s : State) (cmd : List Byte) : (s.loadTx cmd).trace = s.trace := rfl

/-! ### loadRx -/

@[simp] theorem State.loadRx_params (s : State) (bs : List Byte) : (s.loadRx bs).params = s.params := rfl
@[simp] theorem State.loadRx_seq (s : State) (bs : List Byte) : (s.loadRx bs).seq = s.seq := rfl
@[simp] theorem State.loadRx_devAddr (s : State) (bs : List Byte) : (s.loadRx bs).devAddr = s.devAddr := rfl
@[simp] theorem State.loadRx_caps (s : State) (bs : List Byte) : (s.loadRx bs).caps = s.caps := rfl
@[simp] theorem State.loadRx_devinfoDone (s : State) (bs : List Byte) : (s.loadRx bs).devinfoDone = s.devinfoDone := rfl
@[simp] theorem State.loadRx_valid (s : State) (bs : List Byte) : (s.loadRx bs).valid = s.valid := rfl
@[simp] theorem State.loadRx_status (s : State) (bs : List Byte) : (s.loadRx bs).status = s.status := rfl
@[simp] theorem State.loadRx_firstErr (s : State) (bs : List Byte) : (s.loadRx bs).firstErr = s.firstErr := rfl
@[simp] theorem State.loadRx_serial (s : State) (bs : List Byte) : (s.loadRx bs).serial = s.serial := rfl
@[simp] theorem State.loadRx_fwRev (s : State) (bs : List Byte) : (s.loadRx bs).fwRev = s.fwRev := rfl
@[simp] theorem State.loadRx_raw (s : State) (bs : List Byte) : (s.loadRx bs).raw = s.raw := rfl
@[simp] theorem State.loadRx_result (s : State) (bs : List Byte) : (s.loadRx bs).result = s.result := rfl
@[simp] theorem State.loadRx_wstat (s : State) (bs : List Byte) : (s.loadRx bs).wstat = s.wstat := rfl
@[simp] theorem State.loadRx_regBuf (s : State) (bs : List Byte) : (s.loadRx bs).regBuf = s.regBuf := rfl
@[simp] theorem State.loadRx_txBuf (s : State) (bs : List Byte) : (s.loadRx bs).txBuf = s.txBuf := rfl
@[simp] theorem State.loadRx_txLen (s : State) (bs : List Byte) : (s.loadRx bs).txLen = s.txLen := rfl
@[simp] theorem State.loadRx_rxBuf (s : State) (bs : List Byte) : (s.loadRx bs).rxBuf = rxOf bs := rfl
@[simp] theorem State.loadRx_rxLen (s : State) (bs : List Byte) : (s.loadRx bs).rxLen = .of bs.length := rfl
@[simp] theorem State.loadRx_crcReg (s : State) (bs : List Byte) : (s.loadRx bs).crcReg = s.crcReg := rfl
@[simp] theorem State.loadRx_reqs (s : State) (bs : List Byte) : (s.loadRx bs).reqs = s.reqs := rfl
@[simp] theorem State.loadRx_resetIn (s : State) (bs : List Byte) : (s.loadRx bs).resetIn = s.resetIn := rfl
@[simp] theorem State.loadRx_writeAnswers (s : State) (bs : List Byte) : (s.loadRx bs).writeAnswers = s.writeAnswers := rfl
@[simp] theorem State.loadRx_readAnswers (s : State) (bs : List Byte) : (s.loadRx bs).readAnswers = s.readAnswers := rfl
@[simp] theorem State.loadRx_freeCtr (s : State) (bs : List Byte) : (s.loadRx bs).freeCtr = s.freeCtr := rfl
@[simp] theorem State.loadRx_trace (s : State) (bs : List Byte) : (s.loadRx bs).trace = s.trace := rfl

/-! ### record -/

@[simp] theorem State.record_params (s : State) (e : Event) : (s.record e).params = s.params := rfl
@[simp] theorem State.record_seq (s : State) (e : Event) : (s.record e).seq = s.seq := rfl
@[simp] theorem State.record_devAddr (s : State) (e : Event) : (s.record e).devAddr = s.devAddr := rfl
@[simp] theorem State.record_caps (s : State) (e : Event) : (s.record e).caps = s.caps := rfl
@[simp] theorem State.record_devinfoDone (s : State) (e : Event) : (s.record e).devinfoDone = s.devinfoDone := rfl
@[simp] theorem State.record_valid (s : State) (e : Event) : (s.record e).valid = s.valid := rfl
@[simp] theorem State.record_status (s : State) (e : Event) : (s.record e).status = s.status := rfl
@[simp] theorem State.record_firstErr (s : State) (e : Event) : (s.record e).firstErr = s.firstErr := rfl
@[simp] theorem State.record_serial (s : State) (e : Event) : (s.record e).serial = s.serial := rfl
@[simp] theorem State.record_fwRev (s : State) (e : Event) : (s.record e).fwRev = s.fwRev := rfl
@[simp] theorem State.record_raw (s : State) (e : Event) : (s.record e).raw = s.raw := rfl
@[simp] theorem State.record_result (s : State) (e : Event) : (s.record e).result = s.result := rfl
@[simp] theorem State.record_wstat (s : State) (e : Event) : (s.record e).wstat = s.wstat := rfl
@[simp] theorem State.record_regBuf (s : State) (e : Event) : (s.record e).regBuf = s.regBuf := rfl
@[simp] theorem State.record_txBuf (s : State) (e : Event) : (s.record e).txBuf = s.txBuf := rfl
@[simp] theorem State.record_txLen (s : State) (e : Event) : (s.record e).txLen = s.txLen := rfl
@[simp] theorem State.record_rxBuf (s : State) (e : Event) : (s.record e).rxBuf = s.rxBuf := rfl
@[simp] theorem State.record_rxLen (s : State) (e : Event) : (s.record e).rxLen = s.rxLen := rfl
@[simp] theorem State.record_crcReg (s : State) (e : Event) : (s.record e).crcReg = s.crcReg := rfl
@[simp] theorem State.record_reqs (s : State) (e : Event) : (s.record e).reqs = s.reqs := rfl
@[simp] theorem State.record_resetIn (s : State) (e : Event) : (s.record e).resetIn = s.resetIn := rfl
@[simp] theorem State.record_writeAnswers (s : State) (e : Event) : (s.record e).writeAnswers = s.writeAnswers := rfl
@[simp] theorem State.record_readAnswers (s : State) (e : Event) : (s.record e).readAnswers = s.readAnswers := rfl
@[simp] theorem State.record_freeCtr (s : State) (e : Event) : (s.record e).freeCtr = s.freeCtr := rfl
@[simp] theorem State.record_trace (s : State) (e : Event) : (s.record e).trace = s.trace ++ [e] := rfl

/-! ### takeStatus -/

@[simp] theorem State.takeStatus_params (s : State) : (s.takeStatus).params = s.params := rfl
@[simp] theorem State.takeStatus_seq (s : State) : (s.takeStatus).seq = s.seq := rfl
@[simp] theorem State.takeStatus_devAddr (s : State) : (s.takeStatus).devAddr = s.devAddr := rfl
@[simp] theorem State.takeStatus_caps (s : State) : (s.takeStatus).caps = s.caps := rfl
@[simp] theorem State.takeStatus_devinfoDone (s : State) : (s.takeStatus).devinfoDone = s.devinfoDone := rfl
@[simp] theorem State.takeStatus_valid (s : State) : (s.takeStatus).valid = s.valid := rfl
@[simp] theorem State.takeStatus_status (s : State) : (s.takeStatus).status = s.status := rfl
@[simp] theorem State.takeStatus_firstErr (s : State) : (s.takeStatus).firstErr = s.firstErr := rfl
@[simp] theorem State.takeStatus_serial (s : State) : (s.takeStatus).serial = s.serial := rfl
@[simp] theorem State.takeStatus_fwRev (s : State) : (s.takeStatus).fwRev = s.fwRev := rfl
@[simp] theorem State.takeStatus_raw (s : State) : (s.takeStatus).raw = s.raw := rfl
@[simp] theorem State.takeStatus_result (s : State) : (s.takeStatus).result = s.result := rfl
@[simp] theorem State.takeStatus_wstat (s : State) : (s.takeStatus).wstat = s.wstat := rfl
@[simp] theorem State.takeStatus_regBuf (s : State) : (s.takeStatus).regBuf = s.regBuf := rfl
@[simp] theorem State.takeStatus_txBuf (s : State) : (s.takeStatus).txBuf = s.txBuf := rfl
@[simp] theorem State.takeStatus_txLen (s : State) : (s.takeStatus).txLen = s.txLen := rfl
@[simp] theorem State.takeStatus_rxBuf (s : State) : (s.takeStatus).rxBuf = s.rxBuf := rfl
@[simp] theorem State.takeStatus_rxLen (s : State) : (s.takeStatus).rxLen = s.rxLen := rfl
@[simp] theorem State.takeStatus_crcReg (s : State) : (s.takeStatus).crcReg = s.crcReg := rfl
@[simp] theorem State.takeStatus_reqs (s : State) : (s.takeStatus).reqs = s.reqs := rfl
@[simp] theorem State.takeStatus_resetIn (s : State) : (s.takeStatus).resetIn = s.resetIn := rfl
@[simp] theorem State.takeStatus_writeAnswers (s : State) : (s.takeStatus).writeAnswers = s.writeAnswers.tail := rfl
@[simp] theorem State.takeStatus_readAnswers (s : State) : (s.takeStatus).readAnswers = s.readAnswers := rfl
@[simp] theorem State.takeStatus_freeCtr (s : State) : (s.takeStatus).freeCtr = s.freeCtr + 1 := rfl
@[simp] theorem State.takeStatus_trace (s : State) : (s.takeStatus).trace = s.trace := rfl

/-! ### takeBytes -/

@[simp] theorem State.takeBytes_params (s : State) (n : Nat) : (s.takeBytes n).params = s.params := rfl
@[simp] theorem State.takeBytes_seq (s : State) (n : Nat) : (s.takeBytes n).seq = s.seq := rfl
@[simp] theorem State.takeBytes_devAddr (s : State) (n : Nat) : (s.takeBytes n).devAddr = s.devAddr := rfl
@[simp] theorem State.takeBytes_caps (s : State) (n : Nat) : (s.takeBytes n).caps = s.caps := rfl
@[simp] theorem State.takeBytes_devinfoDone (s : State) (n : Nat) : (s.takeBytes n).devinfoDone = s.devinfoDone := rfl
@[simp] theorem State.takeBytes_valid (s : State) (n : Nat) : (s.takeBytes n).valid = s.valid := rfl
@[simp] theorem State.takeBytes_status (s : State) (n : Nat) : (s.takeBytes n).status = s.status := rfl
@[simp] theorem State.takeBytes_firstErr (s : State) (n : Nat) : (s.takeBytes n).firstErr = s.firstErr := rfl
@[simp] theorem State.takeBytes_serial (s : State) (n : Nat) : (s.takeBytes n).serial = s.serial := rfl
@[simp] theorem State.takeBytes_fwRev (s : State) (n : Nat) : (s.takeBytes n).fwRev = s.fwRev := rfl
@[simp] theorem State.takeBytes_raw (s : State) (n : Nat) : (s.takeBytes n).raw = s.raw := rfl
@[simp] theorem State.takeBytes_result (s : State) (n : Nat) : (s.takeBytes n).result = s.result := rfl
@[simp] theorem State.takeBytes_wstat (s : State) (n : Nat) : (s.takeBytes n).wstat = s.wstat := rfl
@[simp] theorem State.takeBytes_regBuf (s : State) (n : Nat) : (s.takeBytes n).regBuf = s.regBuf := rfl
@[simp] theorem State.takeBytes_txBuf (s : State) (n : Nat) : (s.takeBytes n).txBuf = s.txBuf := rfl
@[simp] theorem State.takeBytes_txLen (s : State) (n : Nat) : (s.takeBytes n).txLen = s.txLen := rfl
@[simp] theorem State.takeBytes_rxBuf (s : State) (n : Nat) : (s.takeBytes n).rxBuf = s.rxBuf := rfl
@[simp] theorem State.takeBytes_rxLen (s : State) (n : Nat) : (s.takeBytes n).rxLen = s.rxLen := rfl
@[simp] theorem State.takeBytes_crcReg (s : State) (n : Nat) : (s.takeBytes n).crcReg = s.crcReg := rfl
@[simp] theorem State.takeBytes_reqs (s : State) (n : Nat) : (s.takeBytes n).reqs = s.reqs := rfl
@[simp] theorem State.takeBytes_resetIn (s : State) (n : Nat) : (s.takeBytes n).resetIn = s.resetIn := rfl
@[simp] theorem State.takeBytes_writeAnswers (s : State) (n : Nat) : (s.takeBytes n).writeAnswers = s.writeAnswers := rfl
@[simp] theorem State.takeBytes_readAnswers (s : State) (n : Nat) : (s.takeBytes n).readAnswers = s.readAnswers.tail := rfl
@[simp] theorem State.takeBytes_freeCtr (s : State) (n : Nat) : (s.takeBytes n).freeCtr = s.freeCtr + n := rfl
@[simp] theorem State.takeBytes_trace (s : State) (n : Nat) : (s.takeBytes n).trace = s.trace := rfl

/-! ### takeDraw -/

@[simp] theorem State.takeDraw_params (s : State) (n : Nat) : (s.takeDraw n).params = s.params := rfl
@[simp] theorem State.takeDraw_seq (s : State) (n : Nat) : (s.takeDraw n).seq = s.seq := rfl
@[simp] theorem State.takeDraw_devAddr (s : State) (n : Nat) : (s.takeDraw n).devAddr = s.devAddr := rfl
@[simp] theorem State.takeDraw_caps (s : State) (n : Nat) : (s.takeDraw n).caps = s.caps := rfl
@[simp] theorem State.takeDraw_devinfoDone (s : State) (n : Nat) : (s.takeDraw n).devinfoDone = s.devinfoDone := rfl
@[simp] theorem State.takeDraw_valid (s : State) (n : Nat) : (s.takeDraw n).valid = s.valid := rfl
@[simp] theorem State.takeDraw_status (s : State) (n : Nat) : (s.takeDraw n).status = s.status := rfl
@[simp] theorem State.takeDraw_firstErr (s : State) (n : Nat) : (s.takeDraw n).firstErr = s.firstErr := rfl
@[simp] theorem State.takeDraw_serial (s : State) (n : Nat) : (s.takeDraw n).serial = s.serial := rfl
@[simp] theorem State.takeDraw_fwRev (s : State) (n : Nat) : (s.takeDraw n).fwRev = s.fwRev := rfl
@[simp] theorem State.takeDraw_raw (s : State) (n : Nat) : (s.takeDraw n).raw = s.raw := rfl
@[simp] theorem State.takeDraw_result (s : State) (n : Nat) : (s.takeDraw n).result = s.result := rfl
@[simp] theorem State.takeDraw_wstat (s : State) (n : Nat) : (s.takeDraw n).wstat = s.wstat := rfl
@[simp] theorem State.takeDraw_regBuf (s : State) (n : Nat) : (s.takeDraw n).regBuf = s.regBuf := rfl
@[simp] theorem State.takeDraw_txBuf (s : State) (n : Nat) : (s.takeDraw n).txBuf = s.txBuf := rfl
@[simp] theorem State.takeDraw_txLen (s : State) (n : Nat) : (s.takeDraw n).txLen = s.txLen := rfl
@[simp] theorem State.takeDraw_rxBuf (s : State) (n : Nat) : (s.takeDraw n).rxBuf = s.rxBuf := rfl
@[simp] theorem State.takeDraw_rxLen (s : State) (n : Nat) : (s.takeDraw n).rxLen = s.rxLen := rfl
@[simp] theorem State.takeDraw_crcReg (s : State) (n : Nat) : (s.takeDraw n).crcReg = s.crcReg := rfl
@[simp] theorem State.takeDraw_reqs (s : State) (n : Nat) : (s.takeDraw n).reqs = s.reqs := rfl
@[simp] theorem State.takeDraw_resetIn (s : State) (n : Nat) : (s.takeDraw n).resetIn = s.resetIn := rfl
@[simp] theorem State.takeDraw_writeAnswers (s : State) (n : Nat) : (s.takeDraw n).writeAnswers = s.writeAnswers := rfl
@[simp] theorem State.takeDraw_readAnswers (s : State) (n : Nat) : (s.takeDraw n).readAnswers = s.readAnswers := rfl
@[simp] theorem State.takeDraw_freeCtr (s : State) (n : Nat) : (s.takeDraw n).freeCtr = s.freeCtr + n := rfl
@[simp] theorem State.takeDraw_trace (s : State) (n : Nat) : (s.takeDraw n).trace = s.trace := rfl

/-! ### accept -/

@[simp] theorem State.accept_params (s : State) (op : OpCode) (arg : Byte) : (s.accept op arg).params = s.params := rfl
@[simp] theorem State.accept_seq (s : State) (op : OpCode) (arg : Byte) : (s.accept op arg).seq = .busy ⟨op, arg, 0, .write⟩ := rfl
@[simp] theorem State.accept_devAddr (s : State) (op : OpCode) (arg : Byte) : (s.accept op arg).devAddr = s.devAddr := rfl
@[simp] theorem State.accept_caps (s : State) (op : OpCode) (arg : Byte) : (s.accept op arg).caps = s.caps := rfl
@[simp] theorem State.accept_devinfoDone (s : State) (op : OpCode) (arg : Byte) : (s.accept op arg).devinfoDone = s.devinfoDone := rfl
@[simp] theorem State.accept_valid (s : State) (op : OpCode) (arg : Byte) : (s.accept op arg).valid = s.valid := rfl
@[simp] theorem State.accept_status (s : State) (op : OpCode) (arg : Byte) : (s.accept op arg).status = statusAccept s.status := rfl
@[simp] theorem State.accept_firstErr (s : State) (op : OpCode) (arg : Byte) : (s.accept op arg).firstErr = .none := rfl
@[simp] theorem State.accept_serial (s : State) (op : OpCode) (arg : Byte) : (s.accept op arg).serial = s.serial := rfl
@[simp] theorem State.accept_fwRev (s : State) (op : OpCode) (arg : Byte) : (s.accept op arg).fwRev = s.fwRev := rfl
@[simp] theorem State.accept_raw (s : State) (op : OpCode) (arg : Byte) : (s.accept op arg).raw = s.raw := rfl
@[simp] theorem State.accept_result (s : State) (op : OpCode) (arg : Byte) : (s.accept op arg).result = s.result := rfl
@[simp] theorem State.accept_wstat (s : State) (op : OpCode) (arg : Byte) : (s.accept op arg).wstat = s.wstat := rfl
@[simp] theorem State.accept_regBuf (s : State) (op : OpCode) (arg : Byte) : (s.accept op arg).regBuf = s.regBuf := rfl
@[simp] theorem State.accept_txBuf (s : State) (op : OpCode) (arg : Byte) : (s.accept op arg).txBuf = s.txBuf := rfl
@[simp] theorem State.accept_txLen (s : State) (op : OpCode) (arg : Byte) : (s.accept op arg).txLen = s.txLen := rfl
@[simp] theorem State.accept_rxBuf (s : State) (op : OpCode) (arg : Byte) : (s.accept op arg).rxBuf = s.rxBuf := rfl
@[simp] theorem State.accept_rxLen (s : State) (op : OpCode) (arg : Byte) : (s.accept op arg).rxLen = s.rxLen := rfl
@[simp] theorem State.accept_crcReg (s : State) (op : OpCode) (arg : Byte) : (s.accept op arg).crcReg = s.crcReg := rfl
@[simp] theorem State.accept_reqs (s : State) (op : OpCode) (arg : Byte) : (s.accept op arg).reqs = s.reqs := rfl
@[simp] theorem State.accept_resetIn (s : State) (op : OpCode) (arg : Byte) : (s.accept op arg).resetIn = s.resetIn := rfl
@[simp] theorem State.accept_writeAnswers (s : State) (op : OpCode) (arg : Byte) : (s.accept op arg).writeAnswers = s.writeAnswers := rfl
@[simp] theorem State.accept_readAnswers (s : State) (op : OpCode) (arg : Byte) : (s.accept op arg).readAnswers = s.readAnswers := rfl
@[simp] theorem State.accept_freeCtr (s : State) (op : OpCode) (arg : Byte) : (s.accept op arg).freeCtr = s.freeCtr := rfl
@[simp] theorem State.accept_trace (s : State) (op : OpCode) (arg : Byte) : (s.accept op arg).trace = s.trace := rfl

/-! ### complete -/

@[simp] theorem State.complete_params (s : State) (ok : Bool) (err : ErrCode) : (s.complete ok err).params = s.params := rfl
@[simp] theorem State.complete_seq (s : State) (ok : Bool) (err : ErrCode) : (s.complete ok err).seq = .idle := rfl
@[simp] theorem State.complete_devAddr (s : State) (ok : Bool) (err : ErrCode) : (s.complete ok err).devAddr = s.devAddr := rfl
@[simp] theorem State.complete_caps (s : State) (ok : Bool) (err : ErrCode) : (s.complete ok err).caps = s.caps := rfl
@[simp] theorem State.complete_devinfoDone (s : State) (ok : Bool) (err : ErrCode) : (s.complete ok err).devinfoDone = s.devinfoDone := rfl
@[simp] theorem State.complete_valid (s : State) (ok : Bool) (err : ErrCode) : (s.complete ok err).valid = s.valid := rfl
@[simp] theorem State.complete_status (s : State) (ok : Bool) (err : ErrCode) : (s.complete ok err).status = statusComplete ok err s.status := rfl
@[simp] theorem State.complete_firstErr (s : State) (ok : Bool) (err : ErrCode) : (s.complete ok err).firstErr = s.firstErr := rfl
@[simp] theorem State.complete_serial (s : State) (ok : Bool) (err : ErrCode) : (s.complete ok err).serial = s.serial := rfl
@[simp] theorem State.complete_fwRev (s : State) (ok : Bool) (err : ErrCode) : (s.complete ok err).fwRev = s.fwRev := rfl
@[simp] theorem State.complete_raw (s : State) (ok : Bool) (err : ErrCode) : (s.complete ok err).raw = s.raw := rfl
@[simp] theorem State.complete_result (s : State) (ok : Bool) (err : ErrCode) : (s.complete ok err).result = s.result := rfl
@[simp] theorem State.complete_wstat (s : State) (ok : Bool) (err : ErrCode) : (s.complete ok err).wstat = s.wstat := rfl
@[simp] theorem State.complete_regBuf (s : State) (ok : Bool) (err : ErrCode) : (s.complete ok err).regBuf = s.regBuf := rfl
@[simp] theorem State.complete_txBuf (s : State) (ok : Bool) (err : ErrCode) : (s.complete ok err).txBuf = s.txBuf := rfl
@[simp] theorem State.complete_txLen (s : State) (ok : Bool) (err : ErrCode) : (s.complete ok err).txLen = s.txLen := rfl
@[simp] theorem State.complete_rxBuf (s : State) (ok : Bool) (err : ErrCode) : (s.complete ok err).rxBuf = s.rxBuf := rfl
@[simp] theorem State.complete_rxLen (s : State) (ok : Bool) (err : ErrCode) : (s.complete ok err).rxLen = s.rxLen := rfl
@[simp] theorem State.complete_crcReg (s : State) (ok : Bool) (err : ErrCode) : (s.complete ok err).crcReg = s.crcReg := rfl
@[simp] theorem State.complete_reqs (s : State) (ok : Bool) (err : ErrCode) : (s.complete ok err).reqs = s.reqs := rfl
@[simp] theorem State.complete_resetIn (s : State) (ok : Bool) (err : ErrCode) : (s.complete ok err).resetIn = s.resetIn := rfl
@[simp] theorem State.complete_writeAnswers (s : State) (ok : Bool) (err : ErrCode) : (s.complete ok err).writeAnswers = s.writeAnswers := rfl
@[simp] theorem State.complete_readAnswers (s : State) (ok : Bool) (err : ErrCode) : (s.complete ok err).readAnswers = s.readAnswers := rfl
@[simp] theorem State.complete_freeCtr (s : State) (ok : Bool) (err : ErrCode) : (s.complete ok err).freeCtr = s.freeCtr := rfl
@[simp] theorem State.complete_trace (s : State) (ok : Bool) (err : ErrCode) : (s.complete ok err).trace = s.trace := rfl

/-! ### advance -/

@[simp] theorem State.advance_params (s : State) (r : Running) : (s.advance r).params = s.params := rfl
@[simp] theorem State.advance_seq (s : State) (r : Running) : (s.advance r).seq = .busy ⟨r.op, r.arg, ustepNext r.ustep, .write⟩ := rfl
@[simp] theorem State.advance_devAddr (s : State) (r : Running) : (s.advance r).devAddr = s.devAddr := rfl
@[simp] theorem State.advance_caps (s : State) (r : Running) : (s.advance r).caps = s.caps := rfl
@[simp] theorem State.advance_devinfoDone (s : State) (r : Running) : (s.advance r).devinfoDone = s.devinfoDone := rfl
@[simp] theorem State.advance_valid (s : State) (r : Running) : (s.advance r).valid = s.valid := rfl
@[simp] theorem State.advance_status (s : State) (r : Running) : (s.advance r).status = s.status := rfl
@[simp] theorem State.advance_firstErr (s : State) (r : Running) : (s.advance r).firstErr = s.firstErr := rfl
@[simp] theorem State.advance_serial (s : State) (r : Running) : (s.advance r).serial = s.serial := rfl
@[simp] theorem State.advance_fwRev (s : State) (r : Running) : (s.advance r).fwRev = s.fwRev := rfl
@[simp] theorem State.advance_raw (s : State) (r : Running) : (s.advance r).raw = s.raw := rfl
@[simp] theorem State.advance_result (s : State) (r : Running) : (s.advance r).result = s.result := rfl
@[simp] theorem State.advance_wstat (s : State) (r : Running) : (s.advance r).wstat = s.wstat := rfl
@[simp] theorem State.advance_regBuf (s : State) (r : Running) : (s.advance r).regBuf = s.regBuf := rfl
@[simp] theorem State.advance_txBuf (s : State) (r : Running) : (s.advance r).txBuf = s.txBuf := rfl
@[simp] theorem State.advance_txLen (s : State) (r : Running) : (s.advance r).txLen = s.txLen := rfl
@[simp] theorem State.advance_rxBuf (s : State) (r : Running) : (s.advance r).rxBuf = s.rxBuf := rfl
@[simp] theorem State.advance_rxLen (s : State) (r : Running) : (s.advance r).rxLen = s.rxLen := rfl
@[simp] theorem State.advance_crcReg (s : State) (r : Running) : (s.advance r).crcReg = s.crcReg := rfl
@[simp] theorem State.advance_reqs (s : State) (r : Running) : (s.advance r).reqs = s.reqs := rfl
@[simp] theorem State.advance_resetIn (s : State) (r : Running) : (s.advance r).resetIn = s.resetIn := rfl
@[simp] theorem State.advance_writeAnswers (s : State) (r : Running) : (s.advance r).writeAnswers = s.writeAnswers := rfl
@[simp] theorem State.advance_readAnswers (s : State) (r : Running) : (s.advance r).readAnswers = s.readAnswers := rfl
@[simp] theorem State.advance_freeCtr (s : State) (r : Running) : (s.advance r).freeCtr = s.freeCtr := rfl
@[simp] theorem State.advance_trace (s : State) (r : Running) : (s.advance r).trace = s.trace := rfl

/-! ### setDevinfoDone -/

@[simp] theorem State.setDevinfoDone_params (s : State) : s.setDevinfoDone.params = s.params := rfl
@[simp] theorem State.setDevinfoDone_seq (s : State) : s.setDevinfoDone.seq = s.seq := rfl
@[simp] theorem State.setDevinfoDone_devAddr (s : State) : s.setDevinfoDone.devAddr = s.devAddr := rfl
@[simp] theorem State.setDevinfoDone_caps (s : State) : s.setDevinfoDone.caps = s.caps := rfl
@[simp] theorem State.setDevinfoDone_valid (s : State) : s.setDevinfoDone.valid = s.valid := rfl
@[simp] theorem State.setDevinfoDone_status (s : State) : s.setDevinfoDone.status = s.status := rfl
@[simp] theorem State.setDevinfoDone_firstErr (s : State) : s.setDevinfoDone.firstErr = s.firstErr := rfl
@[simp] theorem State.setDevinfoDone_serial (s : State) : s.setDevinfoDone.serial = s.serial := rfl
@[simp] theorem State.setDevinfoDone_fwRev (s : State) : s.setDevinfoDone.fwRev = s.fwRev := rfl
@[simp] theorem State.setDevinfoDone_raw (s : State) : s.setDevinfoDone.raw = s.raw := rfl
@[simp] theorem State.setDevinfoDone_result (s : State) : s.setDevinfoDone.result = s.result := rfl
@[simp] theorem State.setDevinfoDone_wstat (s : State) : s.setDevinfoDone.wstat = s.wstat := rfl
@[simp] theorem State.setDevinfoDone_regBuf (s : State) : s.setDevinfoDone.regBuf = s.regBuf := rfl
@[simp] theorem State.setDevinfoDone_txBuf (s : State) : s.setDevinfoDone.txBuf = s.txBuf := rfl
@[simp] theorem State.setDevinfoDone_txLen (s : State) : s.setDevinfoDone.txLen = s.txLen := rfl
@[simp] theorem State.setDevinfoDone_rxBuf (s : State) : s.setDevinfoDone.rxBuf = s.rxBuf := rfl
@[simp] theorem State.setDevinfoDone_rxLen (s : State) : s.setDevinfoDone.rxLen = s.rxLen := rfl
@[simp] theorem State.setDevinfoDone_crcReg (s : State) : s.setDevinfoDone.crcReg = s.crcReg := rfl
@[simp] theorem State.setDevinfoDone_reqs (s : State) : s.setDevinfoDone.reqs = s.reqs := rfl
@[simp] theorem State.setDevinfoDone_resetIn (s : State) : s.setDevinfoDone.resetIn = s.resetIn := rfl
@[simp] theorem State.setDevinfoDone_writeAnswers (s : State) : s.setDevinfoDone.writeAnswers = s.writeAnswers := rfl
@[simp] theorem State.setDevinfoDone_readAnswers (s : State) : s.setDevinfoDone.readAnswers = s.readAnswers := rfl
@[simp] theorem State.setDevinfoDone_freeCtr (s : State) : s.setDevinfoDone.freeCtr = s.freeCtr := rfl
@[simp] theorem State.setDevinfoDone_trace (s : State) : s.setDevinfoDone.trace = s.trace := rfl
@[simp] theorem State.setDevinfoDone_devinfoDone (s : State) : s.setDevinfoDone.devinfoDone = true := rfl

end Sys2Proof.Machine
end

