-- ==== Sys2Proof/Laws/Ops.lean ====
section
/-! SUPPORT. What each shared operation can do, said once: the ports, the transaction engine, the operations' own steps, and
the step that runs each. -/

namespace Sys2Proof.Machine

/-! ## The ports -/

@[simp] theorem fillBytes_length (free : Nat → Byte) (n k : Nat) (bs : List Byte) : (fillBytes free n k bs).length = n := by
  induction n generalizing k bs with
  | zero => rfl
  | succ n ih => cases bs <;> simp [fillBytes, ih]

/-- An answer of the right length is what the read returns: no free value is taken. -/
theorem fillBytes_exact (free : Nat → Byte) (n k : Nat) (bs : List Byte) (h : bs.length = n) : fillBytes free n k bs = bs := by
  induction n generalizing k bs with
  | zero => simp at h; subst h; rfl
  | succ n ih =>
    cases bs with
    | nil => simp at h
    | cons b bs => simp only [fillBytes, List.cons.injEq, true_and]; exact ih _ _ (by simpa using h)

theorem State.nextStatus_cons {s : State} {st : Byte} {ws : List Byte} (h : s.writeAnswers = st :: ws) : s.nextStatus = st := by
  simp [State.nextStatus, h]

/-- A read phase that returns, returns exactly the bytes asked for. -/
theorem State.nextBytes_length {s : State} {n : Nat} {bs : List Byte} (h : s.nextBytes n = some bs) : bs.length = n := by
  unfold State.nextBytes at h
  split at h <;> simp at h <;> subst h <;> exact fillBytes_length _ _ _ _

theorem State.nextBytes_exact {s : State} {n : Nat} {bs : List Byte} {rest : List ReadAnswer}
    (h : s.readAnswers = .bytes bs :: rest) (hn : bs.length = n) : s.nextBytes n = some bs := by
  simp [State.nextBytes, h, fillBytes_exact _ _ _ _ hn]

theorem State.nextBytes_hang {s : State} {n : Nat} {rest : List ReadAnswer} (h : s.readAnswers = .hang :: rest) :
    s.nextBytes n = none := by
  simp [State.nextBytes, h]

@[simp] theorem State.drawBytes_length (s : State) (n : Nat) : (s.drawBytes n).length = n := fillBytes_length _ _ _ _

/-- The write phase sends the command it was given. -/
theorem State.txFrame_loadTx (s : State) (cmd : List Byte) (h : cmd.length ≤ 3) : (s.loadTx cmd).txFrame = cmd := by
  match cmd, h with
  | [], _ => rfl
  | [_], _ => rfl
  | [_, _], _ => rfl
  | [_, _, _], _ => rfl

/-- A byte of RXBUF is held exactly below the length. -/
theorem rxReg_held (bs : List Byte) (i : Nat) : (rxReg bs i).held = decide (i < bs.length) := by
  unfold rxReg
  rcases h : bs[i]? with _ | b
  · simp at h
    simpa [byteUnwritten, Reg.unwritten] using h
  · simpa [Reg.of] using (List.getElem?_eq_some_iff.1 h).1

/-! ## Requests -/

theorem State.takeRequest_busy {s : State} {r : Running} (h : s.seq = .busy r) : s.takeRequest = s := by
  simp [State.takeRequest, h]

theorem State.takeRequest_idle {s : State} (h : s.seq = .idle) : s.takeRequest = { s with reqs := s.reqs.tail } := by
  simp [State.takeRequest, h]

/-- Answering a reserved OP is one completion. -/
@[simp] theorem State.rejectRequest_eq (s : State) : s.rejectRequest = s.complete false .illegalOp := rfl

/-- An IDLE codec answers a reserved OP by STATUS alone (R78). -/
theorem State.rejectRequest_idle {s : State} (h : s.seq = .idle) :
    s.rejectRequest = { s with status := statusComplete false .illegalOp s.status } := by
  cases s; cases h; rfl

theorem State.codecReset_eq (s : State) : s.codecReset = { State.resetWith s.params with
    reqs := s.reqs, writeAnswers := s.writeAnswers, readAnswers := s.answersAfterReset, freeCtr := s.freeCtr
    trace := s.trace } := rfl

/-- Only a reset out of a hanging read takes an answer from the read port. -/
theorem State.answersAfterReset_cases (s : State) :
    (s.hungRead = false ∧ s.answersAfterReset = s.readAnswers) ∨
    (s.hungRead = true ∧ s.readAnswers = .hang :: s.answersAfterReset) := by
  unfold State.answersAfterReset
  cases h : s.hungRead with
  | false => exact .inl ⟨rfl, rfl⟩
  | true =>
    refine .inr ⟨rfl, ?_⟩
    cases hs : s.seq with
    | idle => simp [State.hungRead, hs] at h
    | busy r =>
      simp only [State.hungRead, hs, Bool.and_eq_true, beq_iff_eq] at h
      cases ha : s.readAnswers with
      | nil => simp [ha] at h
      | cons a rest => simp [ha] at h; simp [h.2]

/-! ## The transaction engine -/

/-- The phases of `runPhase`, one equation each. -/
theorem State.runPhase_idle {s : State} (h : s.seq = .idle) (tx : Transaction) : s.runPhase tx = s := by
  simp [State.runPhase, h]

theorem State.runPhase_write {s : State} {r : Running} (h : s.seq = .busy r) (hp : r.txph = .write) (tx : Transaction) :
    s.runPhase tx = s.writePhase tx r := by
  simp [State.runPhase, h, hp]

theorem State.runPhase_settle {s : State} {r : Running} (h : s.seq = .busy r) (hp : r.txph = .settle) (tx : Transaction) :
    s.runPhase tx = s.settlePhase tx r := by
  simp [State.runPhase, h, hp]

theorem State.runPhase_read {s : State} {r : Running} (h : s.seq = .busy r) (hp : r.txph = .read) (tx : Transaction) :
    s.runPhase tx = s.readPhase tx r := by
  simp [State.runPhase, h, hp]

theorem State.runPhase_decode {s : State} {r : Running} (h : s.seq = .busy r) (hp : r.txph = .decode) (tx : Transaction) :
    s.runPhase tx = s := by
  simp [State.runPhase, h, hp]

/-- The registers an operation or the host reads, but WSTAT, stay in every bus phase. -/
theorem State.runPhase_frame (s : State) (tx : Transaction) :
    (s.runPhase tx).params = s.params ∧ (s.runPhase tx).devAddr = s.devAddr ∧ (s.runPhase tx).caps = s.caps ∧
      (s.runPhase tx).valid = s.valid ∧ (s.runPhase tx).devinfoDone = s.devinfoDone ∧
      (s.runPhase tx).status = s.status ∧ (s.runPhase tx).serial = s.serial ∧
      (s.runPhase tx).fwRev = s.fwRev ∧ (s.runPhase tx).raw = s.raw ∧ (s.runPhase tx).result = s.result ∧
      (s.runPhase tx).regBuf = s.regBuf ∧ (s.runPhase tx).crcReg = s.crcReg ∧ (s.runPhase tx).reqs = s.reqs ∧
      (s.runPhase tx).resetIn = s.resetIn := by
  unfold State.runPhase
  split
  · simp
  · split
    · simp only [State.writePhase, State.enterResponse]
      split <;> (try split) <;> simp
    · simp only [State.settlePhase, State.enterResponse]
      split <;> simp
    · simp only [State.readPhase]
      split <;> (try split) <;> simp
    · simp

/-! ## The operations' own steps -/

theorem State.hostOp_idle {s : State} (h : s.seq = .idle) (cap : Bool) (op : OpCode) (arg : Byte)
    (d f : Running → State → State) : s.hostOp cap op arg d f = s.dispatch cap op arg := by
  simp [State.hostOp, h]

theorem State.hostOp_decode {s : State} {r : Running} (h : s.seq = .busy r) (ht : s.turn r = .decode) (cap : Bool)
    (d f : Running → State → State) : s.hostOp cap r.op r.arg d f = (d r s).advance r := by
  simp [State.hostOp, h, ht]

theorem State.hostOp_finish {s : State} {r : Running} (h : s.seq = .busy r) (ht : s.turn r = .finish) (cap : Bool)
    (d f : Running → State → State) : s.hostOp cap r.op r.arg d f = f r s := by
  simp [State.hostOp, h, ht]

/-- Everything `hostOp` can do. -/
theorem State.hostOp_cases (s : State) (cap : Bool) (op : OpCode) (arg : Byte) (d f : Running → State → State) :
    (s.seq = .idle ∧ s.hostOp cap op arg d f = s.dispatch cap op arg) ∨
    (∃ r, s.seq = .busy r ∧ r.op = op ∧ r.arg = arg ∧ s.turn r = .decode ∧ s.hostOp cap op arg d f = (d r s).advance r) ∨
    (∃ r, s.seq = .busy r ∧ r.op = op ∧ r.arg = arg ∧ s.turn r = .finish ∧ s.hostOp cap op arg d f = f r s) ∨
    (∃ r, s.seq = .busy r ∧ s.hostOp cap op arg d f = s) := by
  unfold State.hostOp
  cases hs : s.seq with
  | idle => exact .inl ⟨rfl, rfl⟩
  | busy r =>
    by_cases hr : r.op = op ∧ r.arg = arg
    · cases ht : s.turn r with
      | bus tx => exact .inr (.inr (.inr ⟨r, rfl, by simp [hr, ht]⟩))
      | decode => exact .inr (.inl ⟨r, rfl, hr.1, hr.2, ht, by simp [hr, ht]⟩)
      | finish => exact .inr (.inr (.inl ⟨r, rfl, hr.1, hr.2, ht, by simp [hr, ht]⟩))
    · exact .inr (.inr (.inr ⟨r, rfl, by simp [hr]⟩))

/-- A request is one call of `hostOp`. -/
theorem exec_of_hostInstr {op : OpCode} {arg : Byte} {i : Instr} (h : hostInstr op arg = some i) (s : State) :
    ∃ cap d f, exec i s = .next (s.hostOp cap op arg d f) := by
  unfold hostInstr at h
  split at h <;> simp at h <;> subst h <;> rename_i ho <;> rw [opCode_of_toNat ho] <;> exact ⟨_, _, _, rfl⟩

/-- When each turn comes. -/
theorem State.turn_of_none {s : State} {r : Running} (h : s.currentTx r = none) : s.turn r = .finish := by
  simp [State.turn, h]

theorem State.turn_of_decode {s : State} {r : Running} {tx : Transaction} (h : s.currentTx r = some tx) (hp : r.txph = .decode) :
    s.turn r = .decode := by
  simp [State.turn, h, hp]

theorem State.turn_of_write {s : State} {r : Running} {tx : Transaction} (h : s.currentTx r = some tx) (hp : r.txph = .write)
    (hb : beginStops s r = false) : s.turn r = .bus tx := by
  simp [State.turn, h, hp, hb]

theorem State.turn_of_settle {s : State} {r : Running} {tx : Transaction} (h : s.currentTx r = some tx) (hp : r.txph = .settle) :
    s.turn r = .bus tx := by
  simp [State.turn, h, hp]

theorem State.turn_of_read {s : State} {r : Running} {tx : Transaction} (h : s.currentTx r = some tx) (hp : r.txph = .read) :
    s.turn r = .bus tx := by
  simp [State.turn, h, hp]

/-- The bus is at work only on the current transaction. -/
theorem State.currentTx_of_turn_bus {s : State} {r : Running} {tx : Transaction} (h : s.turn r = .bus tx) :
    s.currentTx r = some tx := by
  unfold State.turn at h
  split at h
  · simp at h
  · rename_i tx' hc
    have : tx' = tx := by
      cases hp : r.txph <;> rw [hp] at h
      · by_cases hb : beginStops s r = true <;> simp [hb] at h
        exact h
      · simpa using h
      · simpa using h
      · simp at h
    exact this ▸ hc

/-- The operation decodes only in the DECODE phase of a transaction. -/
theorem State.currentTx_of_turn_decode {s : State} {r : Running} (h : s.turn r = .decode) :
    ∃ tx, s.currentTx r = some tx ∧ r.txph = .decode := by
  unfold State.turn at h
  split at h
  · simp at h
  · rename_i tx hc
    refine ⟨tx, hc, ?_⟩
    cases hp : r.txph <;> simp [hp] at h
    · by_cases hb : beginStops s r = true <;> simp [hb] at h
    · rfl

/-- The command bytes of a transaction decode to the wire command whose meaning runs that transaction. -/
theorem decode_opTransaction {p : Params} {op : OpCode} {arg old : Byte} {u : Fin 4} {tx : Transaction}
    (h : opTransaction p op arg old u = some tx) :
    ∃ i, decode (.frame tx.cmd) = .ok i ∧ ∀ s : State, s.params = p → exec i s = .next (s.runPhase tx) := by
  unfold opTransaction at h
  split at h <;> simp at h <;> subst h <;> exact ⟨_, rfl, by rintro s rfl; rfl⟩

/-! ## Steps -/

theorem step_of_reset {s : State} (h : s.resetIn = true) : step s = .next s.codecReset := by
  simp [step, State.fetch, h]

/-- A step in a bus phase is that phase. -/
theorem step_of_bus {s : State} {r : Running} {tx : Transaction} (h0 : s.resetIn = false) (h : s.seq = .busy r)
    (ht : s.turn r = .bus tx) : step s = .next (s.runPhase tx) := by
  obtain ⟨i, hd, he⟩ := decode_opTransaction (State.currentTx_of_turn_bus ht)
  have hf : s.fetch = .instr i := by simp [State.fetch, h0, State.fetchCode, h, ht, hd]
  simp [step, hf, State.takeRequest_busy h, he]

/-- A step at an operation's turn runs the operation. -/
theorem step_of_operation {s : State} {r : Running} {i : Instr} (h0 : s.resetIn = false) (h : s.seq = .busy r)
    (ht : s.turn r = .decode ∨ s.turn r = .finish) (hi : hostInstr r.op r.arg = some i) : step s = exec i s := by
  have hc : s.fetchCode = some (.request (reqWord r.op r.arg)) := by
    rcases ht with ht | ht <;> simp [State.fetchCode, h, ht]
  have hf : s.fetch = .instr i := by simp [State.fetch, h0, hc, decode, decodeRequest_reqWord, hi]
  simp [step, hf, State.takeRequest_busy h]

/-- A step of an IDLE codec that is offered OP:ARG. -/
theorem step_of_offer {s : State} {op : OpCode} {arg : Byte} {rest : List ReqWord} (h0 : s.resetIn = false) (h : s.seq = .idle)
    (hq : s.reqs = reqWord op arg :: rest) :
    step s =
      match hostInstr op arg with
      | some i => exec i { s with reqs := rest }
      | none => .next (State.rejectRequest { s with reqs := rest }) := by
  have hc : s.fetchCode = some (.request (reqWord op arg)) := by simp [State.fetchCode, h, hq]
  have ht : s.takeRequest = { s with reqs := rest } := by rw [State.takeRequest_idle h, hq]; rfl
  cases hi : hostInstr op arg with
  | some i =>
    have hf : s.fetch = .instr i := by simp [State.fetch, h0, hc, decode, decodeRequest_reqWord, hi]
    simp [step, hf, ht]
  | none =>
    have hf : s.fetch = .reserved op arg := by simp [State.fetch, h0, hc, decode, decodeRequest_reqWord, hi]
    simp [step, hf, ht]

/-- Everything a step of a BUSY codec can be. -/
theorem step_busy_cases {s : State} {r : Running} (h0 : s.resetIn = false) (h : s.seq = .busy r) :
    (∃ tx, s.turn r = .bus tx ∧ s.currentTx r = some tx ∧ step s = .next (s.runPhase tx)) ∨
    (∃ i, (s.turn r = .decode ∨ s.turn r = .finish) ∧ hostInstr r.op r.arg = some i ∧ step s = exec i s) ∨
    (hostInstr r.op r.arg = none ∧ step s = .next s.rejectRequest) := by
  cases hi : hostInstr r.op r.arg with
  | some i =>
    cases ht : s.turn r with
    | bus tx => exact .inl ⟨tx, rfl, State.currentTx_of_turn_bus ht, step_of_bus h0 h ht⟩
    | decode => exact .inr (.inl ⟨i, .inl rfl, rfl, step_of_operation h0 h (.inl ht) hi⟩)
    | finish => exact .inr (.inl ⟨i, .inr rfl, rfl, step_of_operation h0 h (.inr ht) hi⟩)
  | none =>
    cases ht : s.turn r with
    | bus tx => exact .inl ⟨tx, rfl, State.currentTx_of_turn_bus ht, step_of_bus h0 h ht⟩
    | decode =>
      have hf : s.fetch = .reserved r.op r.arg := by
        simp [State.fetch, h0, State.fetchCode, h, ht, decode, decodeRequest_reqWord, hi]
      exact .inr (.inr ⟨rfl, by simp [step, hf, State.takeRequest_busy h]⟩)
    | finish =>
      have hf : s.fetch = .reserved r.op r.arg := by
        simp [State.fetch, h0, State.fetchCode, h, ht, decode, decodeRequest_reqWord, hi]
      exact .inr (.inr ⟨rfl, by simp [step, hf, State.takeRequest_busy h]⟩)

end Sys2Proof.Machine
end

