-- ==== Sys2Proof/Laws/Inv.lean ====
section
/-! SUPPORT. The parts of the invariant as propositions, and what the updates do to them. -/

namespace Sys2Proof.Machine

/-- The invariant part by part. -/
theorem State.inv_iff (s : State) :
    s.inv = true ↔ s.statusLegal = true ∧ s.paramsLoaded = true ∧ s.validLegal = true ∧ s.firstErrLegal = true ∧
      s.seqLegal = true := by
  simp [State.inv, and_assoc]

/-- Where a running request may stand. -/
theorem State.seqLegal_busy_iff {s : State} {r : Running} (h : s.seq = .busy r) :
    s.seqLegal = true ↔
      (hostInstr r.op r.arg).isSome = true ∧ capabilityOn s.params r.op = true ∧ r.ustep.val ≤ opLength r.op ∧
      s.phaseLegal r = true ∧ (r.ustep = 0 ∨ s.wstat.held = true) ∧
      ((r.op = opSetHeaterEn ∨ r.op = opSetHeaterPwr) → r.ustep ≠ 0 → s.regBuf.held = true) ∧
      (r.op = opBegin → r.ustep = 2 → s.regBuf.held = true) := by
  have h1 : ∀ a b c d : Bool, (!(a || b) || c || d) = true ↔ ((a = true ∨ b = true) → c = false → d = true) := by decide
  have h2 : ∀ a c d : Bool, (!a || !c || d) = true ↔ (a = true → c = true → d = true) := by decide
  have e : (r.ustep != 2) = !(r.ustep == 2) := rfl
  simp only [State.seqLegal, h, Bool.and_eq_true, e, h1, h2, and_assoc]
  simp

/-- RXBUF as a read phase leaves it. -/
theorem State.rxHolds_loadRx (s : State) (bs : List Byte) : (s.loadRx bs).rxHolds bs.length = true := by
  simp only [State.rxHolds, State.loadRx, beq_self_eq_true, Bool.true_and, List.all_eq_true, List.mem_range]
  intro i hi
  interval_cases i <;> simp [rxOf, rxReg_held]

/-- A current transaction is within its operation's sequence. -/
theorem opTransaction_lt_opLength {p : Params} {op : OpCode} {arg old : Byte} {u : Fin 4} {tx : Transaction}
    (h : opTransaction p op arg old u = some tx) : u.val < opLength op := by
  unfold opTransaction at h
  unfold opLength
  split at h <;> simp at h <;> simp_all

/-- Only the data bytes of a transaction depend on REGBUF. -/
theorem opTransaction_shape {p : Params} {op : OpCode} {arg old : Byte} {u : Fin 4} {tx : Transaction}
    (h : opTransaction p op arg old u = some tx) (new : Byte) :
    ∃ tx', opTransaction p op arg new u = some tx' ∧ tx'.n = tx.n ∧ tx'.d = tx.d := by
  unfold opTransaction at h ⊢
  split at h <;> simp at h <;> subst h <;> simp_all <;> exact ⟨rfl, rfl⟩

/-- A legal STATUS stays legal at acceptance. -/
theorem State.statusLegal_accept {s : State} (h : s.statusLegal = true) (op : OpCode) (arg : Byte) :
    (s.accept op arg).statusLegal = true := by
  obtain ⟨h1, h2, -, h4, h5⟩ := statusAccept_fields s.status
  simp only [State.statusLegal, Bool.and_eq_true, beq_iff_eq, decide_eq_true_eq] at h ⊢
  have e : (s.accept op arg).status = statusAccept s.status := rfl
  have b : (s.accept op arg).isBusy = true := rfl
  rw [e, b, h1, h2, h4, h5]
  exact ⟨⟨⟨h.1.1.1, rfl⟩, rfl⟩, h.2⟩

/-- A legal STATUS stays legal at completion. -/
theorem State.statusLegal_complete {s : State} (h : s.statusLegal = true) (ok : Bool) (err : ErrCode) :
    (s.complete ok err).statusLegal = true := by
  obtain ⟨h1, h2, -, h4, h5⟩ := statusComplete_fields ok err s.status
  simp only [State.statusLegal, Bool.and_eq_true, beq_iff_eq, decide_eq_true_eq] at h ⊢
  have e : (s.complete ok err).status = statusComplete ok err s.status := rfl
  have b : (s.complete ok err).isBusy = false := rfl
  rw [e, b, h1, h2, h4, h5]
  exact ⟨⟨⟨h.1.1.1, rfl⟩, rfl⟩, err.code_le⟩

/-! ## The invariant through the shared operations -/

/-- A bus phase that goes on to phase `ph` of the same transaction keeps the invariant when it leaves what `ph` asks for. -/
theorem State.inv_of_phase {s t : State} {r : Running} {tx : Transaction} {ph : TxPhase} (hi : s.inv = true)
    (hb : s.seq = .busy r) (hc : s.currentTx r = some tx) (e1 : t.params = s.params) (e2 : t.devAddr = s.devAddr)
    (e3 : t.caps = s.caps) (e4 : t.valid = s.valid) (e5 : t.status = s.status) (e6 : t.regBuf = s.regBuf)
    (e7 : t.firstErrLegal = true) (e8 : t.wstat.held = true) (e9 : t.seq = .busy { r with txph := ph })
    (e10 : ph = .settle → tx.d > 0) (e11 : ph = .read → tx.n > 0) (e12 : ph = .decode → t.rxHolds tx.n = true) :
    t.inv = true := by
  rw [State.inv_iff] at hi ⊢
  obtain ⟨h1, h2, h3, h4, h5⟩ := hi
  rw [State.seqLegal_busy_iff hb] at h5
  obtain ⟨g1, g2, g3, g4, g5, g6, g7⟩ := h5
  have hbusy : t.isBusy = s.isBusy := by simp [State.isBusy, e9, hb]
  refine ⟨?_, ?_, ?_, e7, ?_⟩
  · simpa [State.statusLegal, hbusy, e5] using h1
  · simpa [State.paramsLoaded, e1, e2, e3] using h2
  · simpa [State.validLegal, e1, e4] using h3
  · rw [State.seqLegal_busy_iff e9, e1, e6, e8]
    have ht : t.currentTx { r with txph := ph } = some tx := by simpa [State.currentTx, e1, e6] using hc
    refine ⟨g1, g2, g3, ?_, .inr rfl, g6, g7⟩
    simp only [State.phaseLegal, ht, e8]
    cases ph <;> simp
    · exact e10 rfl
    · exact e11 rfl
    · exact e12 rfl

/-- Entering the response of the same transaction keeps the invariant. -/
theorem State.inv_enterResponse {s t : State} {r : Running} {tx : Transaction} (hi : s.inv = true) (hb : s.seq = .busy r)
    (hc : s.currentTx r = some tx) (e1 : t.params = s.params) (e2 : t.devAddr = s.devAddr) (e3 : t.caps = s.caps)
    (e4 : t.valid = s.valid) (e5 : t.status = s.status) (e6 : t.regBuf = s.regBuf) (e7 : t.firstErrLegal = true)
    (e8 : t.wstat.held = true) : (t.enterResponse tx r).inv = true := by
  unfold State.enterResponse
  split
  · exact State.inv_of_phase (ph := .read) hi hb hc e1 e2 e3 e4 e5 e6 e7 e8 rfl (by simp) (fun _ => ‹_›) (by simp)
  · refine State.inv_of_phase (t := (t.loadRx []).setSeq (.busy { r with txph := .decode })) (ph := .decode) hi hb hc e1 e2 e3 e4
      e5 e6 e7 e8 rfl (by simp) (by simp) fun _ => ?_
    have h0 : tx.n = 0 := by omega
    rw [h0]
    exact State.rxHolds_loadRx t []

/-- Every bus phase of the current transaction keeps the invariant. -/
theorem State.inv_runPhase {s : State} {r : Running} {tx : Transaction} (hi : s.inv = true) (hb : s.seq = .busy r)
    (hc : s.currentTx r = some tx) : (s.runPhase tx).inv = true := by
  have hi' := hi
  rw [State.inv_iff] at hi'
  obtain ⟨-, -, -, h4, h5⟩ := hi'
  rw [State.seqLegal_busy_iff hb] at h5
  have g4 := h5.2.2.2.1
  have hw : r.txph ≠ .write → s.wstat.held = true := by
    intro hp
    simp only [State.phaseLegal, hc] at g4
    cases h : r.txph <;> simp [h] at g4 hp <;> simp [g4]
  cases hp : r.txph
  · rw [State.runPhase_write hb hp]
    simp only [State.writePhase]
    generalize hx : State.record _ _ = x
    have f7 : x.firstErrLegal = true := by
      have hl := noteWrite_legal s.nextStatus s.firstErr (by simpa [State.firstErrLegal] using h4)
      unfold State.firstErrLegal
      rw [← hx]
      simpa using hl
    have f8 : x.wstat.held = true := by rw [← hx]; simp [Reg.of]
    have f1 : x.params = s.params := by rw [← hx]; simp
    have f2 : x.devAddr = s.devAddr := by rw [← hx]; simp
    have f3 : x.caps = s.caps := by rw [← hx]; simp
    have f4 : x.valid = s.valid := by rw [← hx]; simp
    have f5 : x.status = s.status := by rw [← hx]; simp
    have f6 : x.regBuf = s.regBuf := by rw [← hx]; simp
    split
    · exact State.inv_of_phase (t := x.setSeq _) (ph := .settle) hi hb hc f1 f2 f3 f4 f5 f6 f7 f8 rfl (fun _ => ‹_›) (by simp)
        (by simp)
    · exact State.inv_enterResponse hi hb hc f1 f2 f3 f4 f5 f6 f7 f8
  · rw [State.runPhase_settle hb hp]
    simp only [State.settlePhase]
    generalize hx : State.record _ _ = x
    have f7 : x.firstErrLegal = true := by rw [← hx]; exact h4
    have f8 : x.wstat.held = true := by rw [← hx]; exact hw (by simp [hp])
    exact State.inv_enterResponse hi hb hc (by rw [← hx]; simp) (by rw [← hx]; simp) (by rw [← hx]; simp) (by rw [← hx]; simp)
      (by rw [← hx]; simp) (by rw [← hx]; simp) f7 f8
  · have hr : s.wstat.held = true := hw (by simp [hp])
    rw [State.runPhase_read hb hp]
    simp only [State.readPhase]
    split
    · split
      · rename_i bs hbs
        refine State.inv_of_phase (ph := .decode) hi hb hc rfl rfl rfl rfl rfl rfl h4 hr rfl (by simp) (by simp) fun _ => ?_
        have hl := State.nextBytes_length hbs
        rw [← hl]
        exact State.rxHolds_loadRx (s.takeBytes bs.length) bs
      · exact hi
    · refine State.inv_of_phase (ph := .decode) hi hb hc rfl rfl rfl rfl rfl rfl h4 hr rfl (by simp) (by simp) fun _ => ?_
      have hl := State.drawBytes_length s tx.n
      have := State.rxHolds_loadRx (s.takeDraw tx.n) (s.drawBytes tx.n)
      rw [hl] at this
      exact this
  · rw [State.runPhase_decode hb hp]
    exact hi

/-- Completion keeps the invariant. -/
theorem State.inv_complete {s : State} (hi : s.inv = true) (ok : Bool) (err : ErrCode) : (s.complete ok err).inv = true := by
  rw [State.inv_iff] at hi ⊢
  exact ⟨State.statusLegal_complete hi.1 ok err, hi.2.1, hi.2.2.1, hi.2.2.2.1, rfl⟩

/-- Acceptance of an operation whose capability is there keeps the invariant. -/
theorem State.inv_accept {s : State} (hi : s.inv = true) {op : OpCode} {arg : Byte} (h : (hostInstr op arg).isSome = true)
    (hc : capabilityOn s.params op = true) : (s.accept op arg).inv = true := by
  rw [State.inv_iff] at hi ⊢
  refine ⟨State.statusLegal_accept hi.1 op arg, hi.2.1, hi.2.2.1, rfl, ?_⟩
  rw [State.seqLegal_busy_iff (r := ⟨op, arg, 0, .write⟩) rfl]
  refine ⟨h, hc, Nat.zero_le _, ?_, .inl rfl, by simp, by simp⟩
  simp only [State.phaseLegal]
  split <;> rfl

/-- A request answered in its acceptance step keeps the invariant. -/
theorem State.inv_accept_complete {s : State} (hi : s.inv = true) (op : OpCode) (arg : Byte) (ok : Bool) (err : ErrCode) :
    ((s.accept op arg).complete ok err).inv = true := by
  rw [State.inv_iff] at hi ⊢
  exact ⟨State.statusLegal_complete (State.statusLegal_accept hi.1 op arg) ok err, hi.2.1, hi.2.2.1, rfl, rfl⟩

/-- The end of a decode step keeps the invariant when REGBUF is held where a later step reads it. -/
theorem State.inv_advance {s t : State} {r : Running} {tx : Transaction} (hi : s.inv = true) (hb : s.seq = .busy r)
    (hc : s.currentTx r = some tx) (hp : r.txph = .decode) (e1 : t.params = s.params) (e2 : t.devAddr = s.devAddr)
    (e3 : t.caps = s.caps) (e4 : t.status = s.status) (e5 : t.validLegal = true) (e6 : t.firstErr = s.firstErr)
    (e7 : t.wstat = s.wstat) (e8 : (r.op = opSetHeaterEn ∨ r.op = opSetHeaterPwr) → t.regBuf.held = true)
    (e9 : r.op = opBegin → r.ustep = 1 → t.regBuf.held = true) : (t.advance r).inv = true := by
  rw [State.inv_iff] at hi ⊢
  obtain ⟨h1, h2, -, h4, h5⟩ := hi
  rw [State.seqLegal_busy_iff hb] at h5
  obtain ⟨g1, g2, -, g4, -, -, -⟩ := h5
  have hu : (ustepNext r.ustep).val ≤ opLength r.op := by
    have hl := opTransaction_lt_opLength hc
    have hn : ∀ u : Fin 4, (ustepNext u).val ≤ u.val + 1 := by decide
    have := hn r.ustep
    omega
  have hw : s.wstat.held = true := by
    simp only [State.phaseLegal, hc, hp] at g4
    simp at g4
    exact g4.2
  have hone : ∀ u : Fin 4, ustepNext u = 2 → u = 1 := by decide
  have hbusy : (t.advance r).isBusy = s.isBusy := by simp [State.isBusy, State.advance, hb]
  refine ⟨?_, ?_, e5, ?_, ?_⟩
  · have hst : (t.advance r).status = s.status := e4
    unfold State.statusLegal
    rw [hbusy, hst]
    exact h1
  · simpa [State.paramsLoaded, e1, e2, e3, State.advance] using h2
  · simpa [State.firstErrLegal, e6, State.advance] using h4
  · rw [State.seqLegal_busy_iff (r := { r with ustep := ustepNext r.ustep, txph := .write }) rfl]
    refine ⟨g1, ?_, hu, ?_, .inr ?_, fun h _ => e8 h, fun h h' => e9 h (hone _ h')⟩
    · show capabilityOn t.params r.op = true
      rw [e1]
      exact g2
    · simp only [State.phaseLegal]
      split <;> rfl
    · show t.wstat.held = true
      rw [e7]
      exact hw

end Sys2Proof.Machine
end

