-- ==== Sys2Proof/Laws/PerInstr.lean ====
section
/-! SUPPORT. Statements for every instruction, one lemma per constructor. -/

namespace Sys2Proof.Laws.CodeShape

/-- The shape of an instruction's code: a request's OP is one of R71's eight, and a frame is one or two bytes long (R73). -/
def Statement (i : Instr) : Prop :=
  match encode i with
  | .request w => w.toNat / 256 ∈ [1, 2, 3, 4, 5, 6, 7, 8]
  | .frame bs => bs.length = 1 ∨ bs.length = 2

/-- The number of OP in a request word. -/
theorem op_of_word (op : OpCode) (arg : Byte) : (reqWord op arg).toNat / 256 = op.toNat := by
  have h : (reqWord op arg).toNat = op.toNat <<< 8 ||| arg.toNat := BitVec.toNat_append op arg
  have := arg.isLt
  rw [h, ← Nat.shiftLeft_add_eq_or_of_lt arg.isLt, Nat.shiftLeft_eq]
  omega

/-- A request of an OP from 1 to 8. -/
theorem request (op : OpCode) (arg : Byte) (h : op.toNat ∈ [1, 2, 3, 4, 5, 6, 7, 8]) :
    (reqWord op arg).toNat / 256 ∈ [1, 2, 3, 4, 5, 6, 7, 8] := by
  rw [op_of_word]
  exact h

theorem reqBegin (arg : Byte) : Statement (.reqBegin arg) := request 0x1 arg (by decide)
theorem reqReadRh (arg : Byte) : Statement (.reqReadRh arg) := request 0x2 arg (by decide)
theorem reqReadT (arg : Byte) : Statement (.reqReadT arg) := request 0x3 arg (by decide)
theorem reqReadLastT (arg : Byte) : Statement (.reqReadLastT arg) := request 0x4 arg (by decide)
theorem reqReset (arg : Byte) : Statement (.reqReset arg) := request 0x5 arg (by decide)
theorem reqReadDevinfo (arg : Byte) : Statement (.reqReadDevinfo arg) := request 0x6 arg (by decide)
theorem reqSetHeaterEn (arg : Byte) : Statement (.reqSetHeaterEn arg) := request 0x7 arg (by decide)
theorem reqSetHeaterPwr (arg : Byte) : Statement (.reqSetHeaterPwr arg) := request 0x8 arg (by decide)
theorem wireMeasRhNohold : Statement .wireMeasRhNohold := .inl rfl
theorem wireMeasTNohold : Statement .wireMeasTNohold := .inl rfl
theorem wireReadPrevT : Statement .wireReadPrevT := .inl rfl
theorem wireDevReset : Statement .wireDevReset := .inl rfl
theorem wireWriteUserReg (v : Byte) : Statement (.wireWriteUserReg v) := .inr rfl
theorem wireReadUserReg : Statement .wireReadUserReg := .inl rfl
theorem wireWriteHeaterReg (v : Byte) : Statement (.wireWriteHeaterReg v) := .inr rfl
theorem wireReadHeaterReg : Statement .wireReadHeaterReg := .inl rfl
theorem wireReadSnPart1 : Statement .wireReadSnPart1 := .inr rfl
theorem wireReadSnPart2 : Statement .wireReadSnPart2 := .inr rfl
theorem wireReadFwrev : Statement .wireReadFwrev := .inr rfl

end Sys2Proof.Laws.CodeShape
end

