-- ==== Sys2Proof/Tests/Slice0.lean ====
section
/-! SUPPORT. Tests of the model: well-formedness, words written out from the encodings of the spec, one-step vectors of
spec/95_test_vectors.md, and a witness for the hypotheses of every statement. -/

namespace Sys2Proof.Tests

set_option Elab.async false

open Sys2Proof.Machine Sys2Proof.Claims

/-! ## Helpers -/

/-- The reset state with a running request at a place of its sequence. -/
def at_ (op : OpCode) (arg : Byte) (ustep : Fin 4) (ph : TxPhase) : State :=
  { State.reset with seq := .busy ⟨op, arg, ustep, ph⟩ }

/-- The reset state with one request offered. -/
def offered (w : ReqWord) : State := { State.reset with reqs := [w] }

/-- The state with these bytes in RXBUF. -/
def withRx (s : State) (bs : List Byte) : State := s.loadRx bs

/-- The state after an instruction; none where it stops. -/
def after (i : Instr) (s : State) : Option State :=
  match exec i s with
  | .next t => some t
  | .fault _ => none
  | .refused _ => none

/-- The state after one step; none where it stops. -/
def stepped (s : State) : Option State :=
  match step s with
  | .next t => some t
  | .fault _ => none
  | .refused _ => none

/-- The value of a host read; none where it stops. -/
def seen (s : State) (number : Nat) : Option HostValue :=
  match hostRead s number with
  | .next v => some v
  | .fault _ => none
  | .refused _ => none

/-- Whether the decoder gives exactly this instruction. -/
def decodesTo (c : Code) (i : Instr) : Bool :=
  match decode c with
  | .ok j => j == i
  | .error _ => false

/-- Whether the decoder refuses with exactly this reason. -/
def refusedAs (c : Code) (e : DecodeError) : Bool :=
  match decode c with
  | .ok _ => false
  | .error d => d == e

/-! ## Well-formedness: a line with a number out of range is refused, one at the end of the range is not (R83) -/

theorem test_setHeaterEn_two_is_illFormed : (ReqLine.setHeaterEn 2).wellFormed = false := by decide
theorem test_setHeaterEn_one_is_wellFormed : (ReqLine.setHeaterEn 1).wellFormed = true := by decide
theorem test_setHeaterPwr_256_is_illFormed : (ReqLine.setHeaterPwr 256).wellFormed = false := by decide
theorem test_setHeaterPwr_255_is_wellFormed : (ReqLine.setHeaterPwr 255).wellFormed = true := by decide
theorem test_raw_4096_is_illFormed : (ReqLine.raw 4096).wellFormed = false := by decide
theorem test_raw_4095_is_wellFormed : (ReqLine.raw 4095).wellFormed = true := by decide
theorem test_illFormed_lines_do_not_assemble :
    assemble (.setHeaterEn 2) = none ∧ assemble (.setHeaterPwr 256) = none ∧ assemble (.raw 4096) = none := by decide

/-! ## Decoding: words written out bit by bit from R70 to R73 -/

theorem test_request_words_decode :
    decodesTo (.request 0b0001_11111111#12) (.reqBegin 0xFF) ∧ decodesTo (.request 0b0010_00000000#12) (.reqReadRh 0) ∧
    decodesTo (.request 0b0011_00000001#12) (.reqReadT 1) ∧ decodesTo (.request 0b0100_10000000#12) (.reqReadLastT 0x80) ∧
    decodesTo (.request 0b0101_00000000#12) (.reqReset 0) ∧ decodesTo (.request 0b0110_00000000#12) (.reqReadDevinfo 0) ∧
    decodesTo (.request 0b0111_00000001#12) (.reqSetHeaterEn 1) ∧
    decodesTo (.request 0b1000_00011111#12) (.reqSetHeaterPwr 0x1F) := by decide

theorem test_one_byte_frames_decode :
    decodesTo (.frame [0b11110101#8]) .wireMeasRhNohold ∧ decodesTo (.frame [0b11110011#8]) .wireMeasTNohold ∧
    decodesTo (.frame [0b11100000#8]) .wireReadPrevT ∧ decodesTo (.frame [0b11111110#8]) .wireDevReset ∧
    decodesTo (.frame [0b11100111#8]) .wireReadUserReg ∧ decodesTo (.frame [0b00010001#8]) .wireReadHeaterReg := by decide

theorem test_two_byte_frames_decode :
    decodesTo (.frame [0b11100110#8, 0b00111110#8]) (.wireWriteUserReg 0x3E) ∧
    decodesTo (.frame [0b01010001#8, 0b10101111#8]) (.wireWriteHeaterReg 0xAF) ∧
    decodesTo (.frame [0b11111010#8, 0b00001111#8]) .wireReadSnPart1 ∧
    decodesTo (.frame [0b11111100#8, 0b11001001#8]) .wireReadSnPart2 ∧
    decodesTo (.frame [0b10000100#8, 0b10111000#8]) .wireReadFwrev := by decide

/-- The reserved words of 95_test_vectors.md section 2.1. -/
theorem test_reserved_words_are_refused :
    refusedAs (.request 0x000) (.reservedOp 0x0) ∧ refusedAs (.request 0x0FF) (.reservedOp 0x0) ∧
    refusedAs (.request 0x900) (.reservedOp 0x9) ∧ refusedAs (.request 0xF06) (.reservedOp 0xF) := by decide

/-- Frames outside R72 and R81. -/
theorem test_bad_frames_are_refused :
    refusedAs (.frame []) .emptyFrame ∧ refusedAs (.frame [0xE5]) (.unknownCommand 0xE5) ∧
    refusedAs (.frame [0xFA]) (.truncatedFrame 0xFA) ∧ refusedAs (.frame [0xE6]) (.truncatedFrame 0xE6) ∧
    refusedAs (.frame [0xFA, 0xC9]) (.unknownSecondByte 0xFA 0xC9) ∧
    refusedAs (.frame [0xE7, 0x00]) (.trailingBytes [0x00]) := by decide

/-- Every row of spec/opcode_table.json, its fixed bits read as the table numbers them. -/
theorem test_opcode_table_words :
    decodeTableWord 16 0x100 = some (.reqBegin 0) ∧ decodeTableWord 16 0x200 = some (.reqReadRh 0) ∧
    decodeTableWord 16 0x300 = some (.reqReadT 0) ∧ decodeTableWord 16 0x400 = some (.reqReadLastT 0) ∧
    decodeTableWord 16 0x500 = some (.reqReset 0) ∧ decodeTableWord 16 0x600 = some (.reqReadDevinfo 0) ∧
    decodeTableWord 16 0x700 = some (.reqSetHeaterEn 0) ∧ decodeTableWord 16 0x800 = some (.reqSetHeaterPwr 0) ∧
    decodeTableWord 8 0xF5 = some .wireMeasRhNohold ∧ decodeTableWord 8 0xF3 = some .wireMeasTNohold ∧
    decodeTableWord 8 0xE0 = some .wireReadPrevT ∧ decodeTableWord 8 0xFE = some .wireDevReset ∧
    decodeTableWord 16 0xE600 = some (.wireWriteUserReg 0) ∧ decodeTableWord 8 0xE7 = some .wireReadUserReg ∧
    decodeTableWord 16 0x5100 = some (.wireWriteHeaterReg 0) ∧ decodeTableWord 8 0x11 = some .wireReadHeaterReg ∧
    decodeTableWord 16 0xFA0F = some .wireReadSnPart1 ∧ decodeTableWord 16 0xFCC9 = some .wireReadSnPart2 ∧
    decodeTableWord 16 0x84B8 = some .wireReadFwrev ∧ decodeTableWord 12 0x81F = some (.reqSetHeaterPwr 0x1F) := by decide

/-- The step after placing a table word fetches that word's instruction, requests and frames alike. -/
theorem test_placed_words_are_fetched :
    (State.reset.withFetchWord 16 0x1AB).fetch = .instr (.reqBegin 0xAB) ∧
    (State.reset.withFetchWord 8 0xF5).fetch = .instr .wireMeasRhNohold ∧
    (State.reset.withFetchWord 8 0xF3).fetch = .instr .wireMeasTNohold ∧
    (State.reset.withFetchWord 8 0xE0).fetch = .instr .wireReadPrevT ∧
    (State.reset.withFetchWord 8 0xFE).fetch = .instr .wireDevReset ∧
    (State.reset.withFetchWord 16 0xE63E).fetch = .instr (.wireWriteUserReg 0x3E) ∧
    (State.reset.withFetchWord 8 0xE7).fetch = .instr .wireReadUserReg ∧
    (State.reset.withFetchWord 16 0x51AF).fetch = .instr (.wireWriteHeaterReg 0xAF) ∧
    (State.reset.withFetchWord 8 0x11).fetch = .instr .wireReadHeaterReg ∧
    (State.reset.withFetchWord 16 0xFA0F).fetch = .instr .wireReadSnPart1 ∧
    (State.reset.withFetchWord 16 0xFCC9).fetch = .instr .wireReadSnPart2 ∧
    (State.reset.withFetchWord 16 0x84B8).fetch = .instr .wireReadFwrev := by decide +kernel

/-- A reserved word placed is fetched as reserved. -/
theorem test_placed_reserved_word : (State.reset.withFetchWord 16 0x0FF).fetch = .reserved 0x0 0xFF := by decide +kernel

/-! ## Request lines and event lines (R83, R84) -/

theorem test_parse_request_lines :
    parseLine "BEGIN          ; 0x100".toList = some (some .beginReq) ∧
    parseLine "SET_HEATER_PWR 0x1F   ; 0x81F".toList = some (some (.setHeaterPwr 31)) ∧
    parseLine ".req 0x0FF     ; reserved OP 0x0".toList = some (some (.raw 0xFF)) ∧
    parseLine "; a comment".toList = some none ∧ parseLine "SET_HEATER_EN".toList = none := by decide +kernel

theorem test_assembled_words :
    assemble .beginReq = some 0x100 ∧ assemble (.setHeaterEn 1) = some 0x701 ∧ assemble (.setHeaterPwr 31) = some 0x81F ∧
    assemble (.raw 0xFF) = some 0x0FF := by decide

/-- Lines of 95_test_vectors.md sections 2.3 and 3. -/
theorem test_event_lines :
    (Event.write 0x40 [0xE6, 0x3E] false 0xFF).text = "W 0x40 [E6 3E] hold=0 -> st=255".toList ∧
    (Event.delay 25).text = "D 25".toList ∧
    (Event.read 0x40 3 [0x7C, 0x80, 0xF5]).text = "R 0x40 3 -> [7C 80 F5]".toList := by decide +kernel

/-! ## Reset and the host's reads (95_test_vectors.md section 2.4) -/

theorem test_reads_after_reset :
    seen State.reset 0x00 = some (.bits8 0x00) ∧ seen State.reset 0x01 = some (.bits8 0x00) ∧
    seen State.reset 0x07 = some (.bits8 0x07) ∧ seen State.reset 0x08 = some (.bits8 0x40) ∧
    seen State.reset 0x04 = none ∧ seen State.reset 0x10 = none ∧ seen State.reset 0x09 = none ∧
    seen State.reset 0x18 = none := by decide

theorem test_codec_reset_while_busy :
    (stepped { at_ 0x2 0 0 .settle with resetIn := true, status := 0x05, valid := true }).map
      (fun t => (t.seq, t.status, t.valid, t.trace)) = some (.idle, 0x00, false, []) := by decide +kernel

/-- R24: while the first READ_DEVINFO runs, a SERIAL byte already written cannot be read yet, and after its completion it can. -/
theorem test_serial_reads_wait_for_completion :
    (after (.reqReadDevinfo 0) (withRx (at_ 0x6 0 0 .decode) [0x11, 0xAA, 0x22, 0xBB, 0x33, 0xCC, 0x44, 0xDD])).map
      (seen · 0x10) = some none ∧
    (after (.reqReadDevinfo 0) { at_ 0x6 0 3 .write with serial := State.reset.serial.set 0 (.of 0x11) }).map
      (seen · 0x10) = some (some (.bits8 0x11)) := by decide +kernel

/-! ## Acceptance and dispatch (section 2.4) -/

theorem test_accept_keeps_ok_and_err :
    (stepped { offered 0x200 with status := 0x06 }).map (·.status) = some 0x05 ∧
    (stepped { offered 0x200 with status := 0x12 }).map (·.status) = some 0x11 := by decide +kernel

theorem test_reserved_op_outranks_capability :
    (stepped { offered 0x900 with params := { Config.params with capHeater := false } }).map
      (fun t => (t.status, t.trace)) = some (0x32, []) := by decide +kernel

/-- R78: no register other than STATUS changes, also not FIRSTERR. -/
theorem test_reserved_op_keeps_first_error :
    (stepped { offered 0x0FF with firstErr := .busWrite, status := 0x12 }).map (fun t => (t.status, t.firstErr)) =
      some (0x32, .busWrite) := by decide +kernel

theorem test_devinfo_without_capability :
    (after (.reqReadDevinfo 0) { State.reset with params := { Config.params with capDevinfo := false } }).map
      (fun t => (t.status, t.trace, t.seq)) = some (0x42, [], .idle) := by decide +kernel

/-! ## Wire commands, the WRITE phase (sections 2.2 and 2.3) -/

/-- The event of the WRITE phase answered `st`, at the place of the sequence where the command stands. -/
def writeEvent (i : Instr) (s : State) (st : Byte) : Option (List Event) :=
  (after i { s with writeAnswers := [st] }).map (·.trace)

theorem test_measRh_write : writeEvent .wireMeasRhNohold (at_ 0x2 0 0 .write) 2 = some [.write 0x40 [0xF5] false 2] := by
  decide +kernel
theorem test_measT_write : writeEvent .wireMeasTNohold (at_ 0x3 0 0 .write) 0 = some [.write 0x40 [0xF3] false 0] := by
  decide +kernel
theorem test_readPrevT_write : writeEvent .wireReadPrevT (at_ 0x4 0 0 .write) 0 = some [.write 0x40 [0xE0] true 0] := by
  decide +kernel
theorem test_devReset_write : writeEvent .wireDevReset (at_ 0x5 0 0 .write) 1 = some [.write 0x40 [0xFE] false 1] := by
  decide +kernel
theorem test_writeUserReg_write :
    writeEvent (.wireWriteUserReg 0x3E) (at_ 0x7 1 1 .write) 0xFF = some [.write 0x40 [0xE6, 0x3E] false 0xFF] := by
  decide +kernel
theorem test_readUserReg_write : writeEvent .wireReadUserReg (at_ 0x7 0 0 .write) 4 = some [.write 0x40 [0xE7] true 4] := by
  decide +kernel
theorem test_writeHeaterReg_write :
    writeEvent (.wireWriteHeaterReg 0xAF) (at_ 0x8 0x1F 1 .write) 0 = some [.write 0x40 [0x51, 0xAF] false 0] := by
  decide +kernel
theorem test_readHeaterReg_write : writeEvent .wireReadHeaterReg (at_ 0x8 0 0 .write) 0 = some [.write 0x40 [0x11] true 0] := by
  decide +kernel
theorem test_readSnPart1_write :
    writeEvent .wireReadSnPart1 (at_ 0x6 0 0 .write) 0 = some [.write 0x40 [0xFA, 0x0F] true 0] := by decide +kernel
theorem test_readSnPart2_write :
    writeEvent .wireReadSnPart2 (at_ 0x6 0 1 .write) 4 = some [.write 0x40 [0xFC, 0xC9] true 4] := by decide +kernel
theorem test_readFwrev_write :
    writeEvent .wireReadFwrev (at_ 0x6 0 2 .write) 0 = some [.write 0x40 [0x84, 0xB8] true 0] := by decide +kernel

theorem test_failed_write_is_the_first_error :
    (after .wireDevReset { at_ 0x5 0 0 .write with writeAnswers := [1] }).map (fun t => (t.wstat, t.firstErr)) =
      some (.of 1, .busWrite) := by decide +kernel

theorem test_settle_after_failed_write :
    (after .wireMeasRhNohold { at_ 0x2 0 0 .settle with wstat := .of 2 }).map (fun t => (t.trace, t.seq)) =
      some ([.delay 25], .busy ⟨0x2, 0, 0, .read⟩) := by decide +kernel

theorem test_read_skipped_after_failed_write :
    (after .wireReadUserReg { at_ 0x7 0 0 .read with wstat := .of 4, readAnswers := [.bytes [9]] }).map
      (fun t => (t.trace, t.rxLen, t.readAnswers)) = some ([], .of 1, [.bytes [9]]) := by decide +kernel

theorem test_read_issued_after_failed_write :
    (after .wireReadHeaterReg { at_ 0x8 0 0 .read with
      params := { Config.params with readOnWriteFail := true }, wstat := .of 4, readAnswers := [.bytes [9]] }).map
      (fun t => (t.trace, t.rxBuf[0])) = some ([.read 0x40 1 [9]], .of 9) := by decide +kernel

theorem test_hanging_read_stays :
    (after .wireReadPrevT { at_ 0x4 0 0 .read with wstat := .of 0, readAnswers := [.hang] }).map (fun t => (t.seq, t.trace)) =
      some (.busy ⟨0x4, 0, 0, .read⟩, []) := by decide +kernel

/-! ## The operations' own steps -/

/-- Section 2.8: the corruption vector, whose result is written all the same. -/
theorem test_readRh_decode :
    (after (.reqReadRh 0) (withRx (at_ 0x2 0 0 .decode) [0x7C, 0x82, 0xF5])).map (fun t => (t.raw, t.result, t.valid)) =
      some (.of 0x7C82, .of 0x404B65BD00000000, false) := by decide +kernel

/-- Program P1 of section 3. -/
theorem test_readRh_decode_valid :
    (after (.reqReadRh 0) (withRx (at_ 0x2 0 0 .decode) [0x7C, 0x80, 0xF5])).map (fun t => (t.raw, t.result, t.valid)) =
      some (.of 0x7C80, .of 0x404B654000000000, true) := by decide +kernel

/-- Program P3 of section 3. -/
theorem test_readT_decode :
    (after (.reqReadT 0) (withRx (at_ 0x3 0 0 .decode) [0x66, 0x4C, 0x00])).map (fun t => (t.raw, t.result, t.valid)) =
      some (.of 0x664C, .of 0x40375E01C28F5C2A, false) := by decide +kernel

/-- Program P1: VALID is still 1 after READ_LAST_T. -/
theorem test_readLastT_decode :
    (after (.reqReadLastT 0) (withRx { at_ 0x4 0 0 .decode with valid := true } [0x66, 0x4C])).map
      (fun t => (t.raw, t.result, t.valid)) = some (.of 0x664C, .of 0x40375E01C28F5C2A, true) := by decide +kernel

/-- Section 2.9. -/
theorem test_devinfo_decode :
    (after (.reqReadDevinfo 0) (withRx (at_ 0x6 0 0 .decode) [0x11, 0xAA, 0x22, 0xBB, 0x33, 0xCC, 0x44, 0xDD])).map
      (fun t => (t.serial[0], t.serial[1], t.serial[2], t.serial[3], t.serial[4].held)) =
      some (.of 0x11, .of 0x22, .of 0x33, .of 0x44, false) ∧
    (after (.reqReadDevinfo 0) (withRx (at_ 0x6 0 2 .decode) [0x20])).map (·.fwRev) = some (.of 0x20) := by decide +kernel

/-- Section 2.10: what SET_HEATER_EN sends back. -/
theorem test_setHeaterEn_data :
    heaterEnData 0x3A 0x01 = 0x3E ∧ heaterEnData 0x3E 0x00 = 0x3A ∧ heaterEnData 0xFF 0x00 = 0xFB ∧
    heaterEnData 0x00 0x01 = 0x04 ∧ heaterEnData 0x3A 0x02 = 0x3A := by decide
theorem test_setHeaterEn_decode :
    (after (.reqSetHeaterEn 1) (withRx (at_ 0x7 1 0 .decode) [0x3A])).map (fun t => (t.regBuf, t.fetchCode)) =
      some (.of 0x3A, some (.frame [0xE6, 0x3E])) := by decide +kernel

/-- Section 2.10: what SET_HEATER_PWR sends back. -/
theorem test_setHeaterPwr_data :
    heaterPwrData 0xA3 0x1F = 0xAF ∧ heaterPwrData 0xA3 0x10 = 0xA0 ∧ heaterPwrData 0xFF 0x05 = 0xF5 ∧
    heaterPwrData 0x00 0xFF = 0x0F := by decide
theorem test_setHeaterPwr_decode :
    (after (.reqSetHeaterPwr 0x1F) (withRx (at_ 0x8 0x1F 0 .decode) [0xA3])).map (fun t => (t.regBuf, t.fetchCode)) =
      some (.of 0xA3, some (.frame [0x51, 0xAF])) := by decide +kernel

/-- Section 2.5. -/
theorem test_reset_completes :
    (after (.reqReset 0) { at_ 0x5 0 1 .write with wstat := .of 0, status := 0x01 }).map (·.status) = some 0x06 := by
  decide +kernel
theorem test_reset_completes_after_failed_write :
    (after (.reqReset 0) { at_ 0x5 0 1 .write with wstat := .of 2, firstErr := .busWrite, status := 0x01 }).map (·.status) =
      some 0x12 := by decide +kernel

/-- Section 2.6: the table's rows, `st1`, `b`, whether CHECK_READ, and STATUS. -/
def beginStatus (st1 b : Byte) (variant : BeginVariant) : Option Byte :=
  (after (.reqBegin 0) { at_ 0x1 0 2 .write with
    params := { Config.params with beginVariant := variant }, wstat := .of st1, regBuf := .of b, status := 0x01
    firstErr := if st1 = 0 then .none else .busWrite }).map (·.status)

theorem test_begin_completes :
    beginStatus 0 0x3A .checkRead = some 0x06 ∧ beginStatus 0 0x3B .checkRead = some 0x22 ∧
    beginStatus 0 0x00 .ignoreRead = some 0x22 ∧ beginStatus 3 0x3B .checkRead = some 0x16 ∧
    beginStatus 3 0x3A .ignoreRead = some 0x16 ∧ beginStatus 3 0x3B .ignoreRead = some 0x12 := by decide +kernel
theorem test_begin_stops_after_failed_reset :
    (stepped { at_ 0x1 0 1 .write with wstat := .of 1, firstErr := .busWrite, status := 0x01 }).map
      (fun t => (t.status, t.trace, t.seq)) = some (0x12, [], .idle) := by decide +kernel

/-! ## Conversions and checksum (sections 2.7 and 2.8) -/

theorem test_humidity_vectors :
    convRh 0x0000 = 0xC018000000000000 ∧ clampRh (convRh 0x0000) = 0 ∧ clampRh (convRh 0x0C4A) = 0x3F41000000000000 ∧
    clampRh (convRh 0x8000) = 0x404C400000000000 ∧ clampRh (convRh 0xD916) = 0x4058FFEF80000000 ∧
    clampRh (convRh 0xD917) = 0x4059000000000000 ∧ convRh 0xFFFF = 0x405DBFE0C0000000 := by decide +kernel
theorem test_temperature_vectors :
    convT 0x0000 = 0xC0476CCCCCCCCCCD ∧ convT 0x4441 = 0xBF1828F5C2900000 ∧ convT 0x4442 = 0x3F6535C28F5C0000 ∧
    convT 0x6000 = 0x40330B851EB851EA ∧ convT 0x70F0 = 0x403EABC70A3D70A2 ∧ convT 0xFFFF = 0x40601BC113333333 := by
  decide +kernel
/-- 2^53 + 1 is a tie and goes to the even neighbour, 2^53 + 3 to the one above. -/
theorem test_rounding_ties :
    roundBin64 ⟨2 ^ 53 + 1, 0⟩ = 0x4340000000000000 ∧ roundBin64 ⟨2 ^ 53 + 3, 0⟩ = 0x4340000000000002 := by decide +kernel
theorem test_checksum_vectors :
    crc8 [0x4E, 0x85] = 0x6B ∧ crc8 [0x66, 0x4C] = 0x4F ∧ crc8 [0x12, 0x34] = 0xB6 ∧ crc8Serial [0x7C, 0x80] = 0xF5 ∧
    crcOk 0x7C 0x82 0xF5 = false := by decide +kernel

/-! ## Witnesses: states and operands that meet the hypotheses of the statements -/

/-- CodecResetTakesOneStepFromAnyState. -/
theorem witness_reset_applied : ({ at_ 0x2 0 0 .read with resetIn := true } : State).resetIn = true := by decide

/-- CodecResetTakesOneStepFromAnyState: both outcomes for the read port's answers, the reset coming out of a hanging read. -/
theorem witness_reset_of_hang :
    ({ at_ 0x4 0 0 .read with resetIn := true, readAnswers := [.hang, .bytes [1, 2]] } : State).resetIn = true ∧
    hangs { at_ 0x4 0 0 .read with resetIn := true, readAnswers := [.hang, .bytes [1, 2]] } = true ∧
    hangs { at_ 0x4 0 0 .write with resetIn := true, readAnswers := [.hang] } = false := by decide

/-- SerialIsReadOnlyAfterCompletion: the mark unset, the step that sets it, the step that clears it, and one that keeps it. -/
theorem witness_devinfo_mark :
    State.reset.devinfoDone = false ∧
    (stepped (at_ 0x6 0 3 .write)).map (·.devinfoDone) = some true ∧
    (stepped { State.reset with devinfoDone := true, resetIn := true }).map (·.devinfoDone) = some false ∧
    (stepped { at_ 0x5 0 0 .settle with devinfoDone := true }).map (·.devinfoDone) = some true := by decide +kernel

/-- DecodeOfEncode. -/
theorem witness_wellFormed : (Instr.reqSetHeaterPwr 0xFF).wellFormed = true ∧ (Instr.wireWriteUserReg 0).wellFormed = true := by
  decide

/-- EncodeOfDecode, for both kinds of code. -/
theorem witness_decoded :
    decode (.request 0x8FF) = .ok (.reqSetHeaterPwr 0xFF) ∧ decode (.frame [0x51, 0xFF]) = .ok (.wireWriteHeaterReg 0xFF) := by
  constructor <;> rfl

/-- CommandStreamsSplit: the shortest and the longest command. -/
theorem witness_wireRow :
    wireRow Config.params .wireDevReset = some ([0xFE], 0, 50, false) ∧
    wireRow Config.params .wireReadSnPart1 = some ([0xFA, 0x0F], 8, 0, true) := by decide

/-- RequestLinesAssemble: both sides of each range are the well-formedness tests above; here the ends used by its clauses. -/
theorem witness_line_ranges : (1 : Nat) < 2 ∧ (255 : Nat) < 256 ∧ (4095 : Nat) < 4096 := by decide

/-- RequestWordsDecodeByOp: OP 1 and 8 decode, OP 0, 9 and 15 are reserved. -/
theorem witness_op_ranges :
    requestRow (.reqBegin 0) = some ((0x100 : ReqWord).extractLsb' 8 4, (0x100 : ReqWord).extractLsb' 0 8) ∧
    requestRow (.reqSetHeaterPwr 0xFF) = some ((0x8FF : ReqWord).extractLsb' 8 4, (0x8FF : ReqWord).extractLsb' 0 8) ∧
    (0x0FF : ReqWord).extractLsb' 8 4 = 0 ∧ 9 ≤ ((0x900 : ReqWord).extractLsb' 8 4).toNat ∧
    9 ≤ ((0xF00 : ReqWord).extractLsb' 8 4).toNat := by decide

/-- StepRunsTheDecodedInstruction: an IDLE codec with a request, and a BUSY one in a bus phase. -/
theorem witness_fetched_idle :
    (offered 0x200).resetIn = false ∧ (offered 0x200).fetchCode = some (.request 0x200) ∧
    decode (.request 0x200) = .ok (.reqReadRh 0) ∧ (offered 0x200).seq = .idle := ⟨rfl, rfl, rfl, rfl⟩
theorem witness_fetched_busy :
    (at_ 0x2 0 0 .write).resetIn = false ∧ (at_ 0x2 0 0 .write).fetchCode = some (.frame [0xF5]) ∧
    decode (.frame [0xF5]) = .ok .wireMeasRhNohold ∧ (at_ 0x2 0 0 .write).seq = .busy ⟨0x2, 0, 0, .write⟩ :=
  ⟨rfl, rfl, rfl, rfl⟩

/-- FetchFollowsTheSequence: a request offered, a command issued (with BEGIN's stop as its corner), and the end of a sequence. -/
theorem witness_fetch_idle : (offered 0xFFF).seq = .idle ∧ (offered 0xFFF).reqs = 0xFFF :: [] := ⟨rfl, rfl⟩
theorem witness_fetch_issued :
    (at_ 0x1 0 1 .write).seq = .busy ⟨0x1, 0, 1, .write⟩ ∧ issued 0x1 0 (at_ 0x1 0 1 .write).regBuf.val 1 = some [0xE7] ∧
    ({ at_ 0x1 0 1 .write with firstErr := .busWrite } : State).firstErr ≠ .none := ⟨rfl, rfl, by decide⟩
theorem witness_fetch_end :
    (at_ 0x6 0 3 .write).seq = .busy ⟨0x6, 0, 3, .write⟩ ∧ issued 0x6 0 (at_ 0x6 0 3 .write).regBuf.val 3 = none := ⟨rfl, rfl⟩

/-- IdleWithoutRequestStays. -/
theorem witness_idle : State.reset.resetIn = false ∧ State.reset.seq = .idle ∧ State.reset.reqs = [] := ⟨rfl, rfl, rfl⟩

/-- NoRequestIsTakenWhileBusy and EventsAreTotallyOrdered: a busy codec with a request waiting takes a step. -/
theorem witness_busy_step :
    ({ at_ 0x5 0 0 .settle with reqs := [0x200] } : State).resetIn = false ∧
    ({ at_ 0x5 0 0 .settle with reqs := [0x200] } : State).seq = .busy ⟨0x5, 0, 0, .settle⟩ ∧
    ∃ t, step { at_ 0x5 0 0 .settle with reqs := [0x200] } = .next t ∧ t.trace = [.delay 50] := ⟨rfl, rfl, _, rfl, rfl⟩

/-- The reset state of a codec built without a capability. -/
def without_ (devinfo heater : Bool) : State :=
  State.resetWith { Config.params with capDevinfo := devinfo, capHeater := heater }

/-- IdleCodecAcceptsEveryOperation: the first and the last operation. -/
theorem witness_accept_first :
    requestRow (.reqBegin 0) = some (0x1, 0) ∧ State.reset.seq = .idle ∧ capability State.reset.params 0x1 = true := by decide
theorem witness_accept_last :
    requestRow (.reqSetHeaterPwr 0xFF) = some (0x8, 0xFF) ∧ State.reset.seq = .idle ∧
    capability State.reset.params 0x8 = true := by decide

/-- MissingCapabilityCompletesAtOnce: each operation that needs a capability. -/
theorem witness_missing_devinfo :
    requestRow (.reqReadDevinfo 0) = some (0x6, 0) ∧ (without_ false true).seq = .idle ∧
    capability (without_ false true).params 0x6 = false := by decide
theorem witness_missing_heater :
    requestRow (.reqSetHeaterEn 1) = some (0x7, 1) ∧ requestRow (.reqSetHeaterPwr 0) = some (0x8, 0) ∧
    (without_ true false).seq = .idle ∧ capability (without_ true false).params 0x7 = false ∧
    capability (without_ true false).params 0x8 = false := by decide

/-- ReservedOpCompletesAtOnce, DispatchChecksInOrder: OP 0, 9 and 15. -/
theorem witness_reserved_low : offers (offered 0x000) 0x0 0x00 [] ∧ ((0x0 : OpCode) = 0 ∨ 9 ≤ (0x0 : OpCode).toNat) :=
  ⟨⟨rfl, rfl, rfl⟩, by decide⟩
theorem witness_reserved_nine : offers (offered 0x9FF) 0x9 0xFF [] ∧ ((0x9 : OpCode) = 0 ∨ 9 ≤ (0x9 : OpCode).toNat) :=
  ⟨⟨rfl, rfl, rfl⟩, by decide⟩
theorem witness_reserved_top : offers (offered 0xF06) 0xF 0x06 [] ∧ ((0xF : OpCode) = 0 ∨ 9 ≤ (0xF : OpCode).toNat) :=
  ⟨⟨rfl, rfl, rfl⟩, by decide⟩

/-- DispatchChecksInOrder: its second and third case, at the OPs next to the reserved ones. -/
theorem witness_dispatch_cases :
    offers { without_ true false with reqs := [0x8FF] } 0x8 0xFF [] ∧ offers (offered 0x100) 0x1 0x00 [] ∧
    ¬ ((0x8 : OpCode) = 0 ∨ 9 ≤ (0x8 : OpCode).toNat) ∧ capability (without_ true false).params 0x8 = false :=
  ⟨⟨rfl, rfl, rfl⟩, ⟨rfl, rfl, rfl⟩, by decide, by decide⟩

/-- WritePhaseOfEveryCommand, WriteAnswersAreTakenInOrder: with a delay, with only a response, and with neither. -/
theorem witness_write_with_delay :
    wireRow (at_ 0x2 0 0 .write).params .wireMeasRhNohold = some ([0xF5], 3, 25, false) ∧
    ({ at_ 0x2 0 0 .write with writeAnswers := [7] } : State).seq = .busy ⟨0x2, 0, 0, .write⟩ ∧
    ({ at_ 0x2 0 0 .write with writeAnswers := [7] } : State).writeAnswers = 7 :: [] := by decide
theorem witness_write_with_response :
    wireRow (at_ 0x4 0 0 .write).params .wireReadPrevT = some ([0xE0], 2, 0, true) ∧
    (at_ 0x4 0 0 .write).seq = .busy ⟨0x4, 0, 0, .write⟩ := by decide
theorem witness_write_alone :
    wireRow (at_ 0x7 0 1 .write).params (.wireWriteUserReg 0) = some ([0xE6, 0], 0, 0, false) ∧
    (at_ 0x7 0 1 .write).seq = .busy ⟨0x7, 0, 1, .write⟩ := by decide

/-- SettlePhaseAlwaysWaits: with a response. NoResponseLeavesNoBytes and SettlePhaseAlwaysWaits: without. -/
theorem witness_settle_with_response :
    wireRow (at_ 0x3 0 0 .settle).params .wireMeasTNohold = some ([0xF3], 3, 25, false) ∧ 0 < 25 ∧
    (at_ 0x3 0 0 .settle).seq = .busy ⟨0x3, 0, 0, .settle⟩ := by decide
theorem witness_settle_alone :
    wireRow (at_ 0x5 0 0 .settle).params .wireDevReset = some ([0xFE], 0, 50, false) ∧ 0 < 50 ∧
    (at_ 0x5 0 0 .settle).seq = .busy ⟨0x5, 0, 0, .settle⟩ := by decide

/-- ReadPhaseTakesTheResponse: after a write that succeeded, and after one that failed with P_READ_ON_WRITE_FAIL. -/
theorem witness_read_after_success :
    wireRow (at_ 0x6 0 0 .read).params .wireReadSnPart1 = some ([0xFA, 0x0F], 8, 0, true) ∧ 0 < 8 ∧
    (at_ 0x6 0 0 .read).seq = .busy ⟨0x6, 0, 0, .read⟩ ∧ readIssued (at_ 0x6 0 0 .read) (at_ 0x6 0 0 .read).wstat.val ∧
    ({ at_ 0x6 0 0 .read with readAnswers := [.bytes [1, 2, 3, 4, 5, 6, 7, 8]] } : State).readAnswers =
      .bytes [1, 2, 3, 4, 5, 6, 7, 8] :: [] ∧ ([1, 2, 3, 4, 5, 6, 7, 8] : List Byte).length = 8 :=
  ⟨rfl, by decide, rfl, .inl rfl, rfl, rfl⟩
theorem witness_read_after_failure :
    wireRow Config.params .wireReadUserReg = some ([0xE7], 1, 0, true) ∧ 0 < 1 ∧
    readIssued { at_ 0x7 0 0 .read with wstat := .of 0xFF, params := { Config.params with readOnWriteFail := true } } 0xFF ∧
    ([9] : List Byte).length = 1 := ⟨rfl, by decide, .inr rfl, rfl⟩

/-- SkippedReadTakesADraw. -/
theorem witness_skipped_read :
    wireRow (at_ 0x7 0 0 .read).params .wireReadUserReg = some ([0xE7], 1, 0, true) ∧ 0 < 1 ∧
    ({ at_ 0x7 0 0 .read with wstat := .of 1 } : State).seq = .busy ⟨0x7, 0, 0, .read⟩ ∧
    ({ at_ 0x7 0 0 .read with wstat := .of 1 } : State).wstat.val ≠ 0 ∧
    ({ at_ 0x7 0 0 .read with wstat := .of 1 } : State).params.readOnWriteFail = false := by decide

/-- HangingReadNeverEnds. -/
theorem witness_hang :
    ({ at_ 0x4 0 0 .read with readAnswers := [.hang] } : State).resetIn = false ∧
    ({ at_ 0x4 0 0 .read with readAnswers := [.hang] } : State).seq = .busy ⟨0x4, 0, 0, .read⟩ ∧
    issued 0x4 0 (at_ 0x4 0 0 .read).regBuf.val 0 = some [0xE0] ∧
    readIssued (at_ 0x4 0 0 .read) (at_ 0x4 0 0 .read).wstat.val ∧
    ({ at_ 0x4 0 0 .read with readAnswers := [.hang] } : State).readAnswers = .hang :: [] := ⟨rfl, rfl, rfl, .inl rfl, rfl⟩

/-- WireCommandFrame: a wire command in each phase, and while IDLE. -/
theorem witness_wire_frame :
    requestRow .wireDevReset = none ∧ (∃ t, exec .wireDevReset (at_ 0x5 0 0 .write) = .next t) ∧
    (∃ t, exec .wireDevReset (at_ 0x5 0 0 .settle) = .next t) ∧ (∃ t, exec .wireReadPrevT (at_ 0x4 0 0 .read) = .next t) ∧
    (∃ t, exec .wireDevReset (at_ 0x5 0 0 .decode) = .next t) ∧ (∃ t, exec .wireDevReset State.reset = .next t) :=
  ⟨rfl, ⟨_, rfl⟩, ⟨_, rfl⟩, ⟨_, rfl⟩, ⟨_, rfl⟩, ⟨_, rfl⟩⟩

/-- ReadRhDecodes, ReadTDecodes, ReadLastTDecodes, ReadDevinfoDecodes, RegisterReadsGoToRegbuf: every place they speak of. -/
theorem witness_decode_places :
    ∀ op : OpCode, ∀ u : Fin 4, (at_ op 0x55 u .decode).seq = .busy ⟨op, 0x55, u, .decode⟩ := fun _ _ => rfl

/-- DefaultCompletion: the six operations at the end of their sequences. -/
theorem witness_default_completion :
    ∀ i ∈ [Instr.reqReadRh 0, .reqReadT 0, .reqReadLastT 0, .reqReadDevinfo 0, .reqSetHeaterEn 0, .reqSetHeaterPwr 0],
      ∃ op u, requestRow i = some (op, 0) ∧ op ≠ 0x1 ∧ op ≠ 0x5 ∧
        u.val = (if op = 0x6 then 3 else if op = 0x7 ∨ op = 0x8 then 2 else 1) ∧
        (at_ op 0 u .write).seq = .busy ⟨op, 0, u, .write⟩ := by decide

/-- ResetCompletion. -/
theorem witness_reset_completion : (at_ 0x5 0 1 .write).seq = .busy ⟨0x5, 0, 1, .write⟩ := rfl

/-- BeginCompletion: its stop after a failed reset write. -/
theorem witness_begin_stop :
    ({ at_ 0x1 0 1 .write with firstErr := .busWrite } : State).seq = .busy ⟨0x1, 0, 1, .write⟩ ∧
    ({ at_ 0x1 0 1 .write with firstErr := .busWrite } : State).firstErr ≠ .none := by decide

/-- A state at BEGIN's comparison. -/
def compared (b st : Byte) (variant : BeginVariant) : State :=
  { at_ 0x1 0 2 .write with
    regBuf := .of b, wstat := .of st, params := { Config.params with beginVariant := variant } }

/-- BeginCompletion: each outcome of the comparison. -/
theorem witness_begin_comparison :
    (∀ b st v, (compared b st v).seq = .busy ⟨0x1, 0, 2, .write⟩) ∧ (compared 0x3A 0 .checkRead).regBuf.val = 0x3A ∧
    ((compared 0x3B 3 .checkRead).regBuf.val ≠ 0x3A ∧ (compared 0x3B 3 .checkRead).params.beginVariant = .checkRead ∧
      (compared 0x3B 3 .checkRead).wstat.val ≠ 0) ∧
    ((compared 0x3B 0 .checkRead).regBuf.val ≠ 0x3A ∧ (compared 0x3B 0 .checkRead).wstat.val = 0) ∧
    ((compared 0x00 3 .ignoreRead).regBuf.val ≠ 0x3A ∧ (compared 0x00 3 .ignoreRead).params.beginVariant = .ignoreRead) :=
  ⟨fun _ _ _ => rfl, rfl, by decide, by decide, by decide⟩

/-- OperationFrame: an operation whose step touches each kind of state its clauses exclude. -/
theorem witness_operation_frame :
    (∃ t, exec (.reqReadRh 0) (at_ 0x2 0 0 .decode) = .next t) ∧ (∃ t, exec (.reqReadDevinfo 0) (at_ 0x6 0 0 .decode) = .next t) ∧
    (∃ t, exec (.reqSetHeaterEn 0) (at_ 0x7 0 0 .decode) = .next t) ∧ (at_ 0x7 0 0 .decode).seq ≠ .idle :=
  ⟨⟨_, rfl⟩, ⟨_, rfl⟩, ⟨_, rfl⟩, by decide⟩

/-- OnlyHeaterOperationsReadArg: each kind of operation, with another ARG that agrees where it is read, and a write-back
after a recorded error. -/
theorem witness_arg_heaterEn :
    (at_ 0x7 0x01 1 .write).seq = .busy ⟨0x7, 0x01, 1, .write⟩ ∧
    (0xFF : Byte).getLsbD 0 = (0x01 : Byte).getLsbD 0 ∧ (at_ 0x7 0x01 1 .write).fetchCode = some (.frame [0xE6, 0x04]) := by
  decide +kernel
theorem witness_arg_heaterPwr :
    ({ at_ 0x8 0x1F 1 .write with firstErr := .busWrite } : State).seq = .busy ⟨0x8, 0x1F, 1, .write⟩ ∧
    (0xFF : Byte) &&& 0x0F = (0x1F : Byte) &&& 0x0F ∧
    ({ at_ 0x8 0x1F 1 .write with firstErr := .busWrite } : State).fetchCode = some (.frame [0x51, 0x0F]) := by
  decide +kernel
theorem witness_arg_ignored :
    (at_ 0x2 0x00 0 .write).seq = .busy ⟨0x2, 0x00, 0, .write⟩ ∧
    ((0x2 : OpCode) ≠ 0x7 ∧ (0x2 : OpCode) ≠ 0x8) ∧ (at_ 0x2 0x00 0 .write).fetchCode = some (.frame [0xF5]) := by
  decide +kernel

/-- HumidityIsClamped: a code whose humidity is within [0, 100], so that it passes through. -/
theorem witness_humidity_in_range : 0 ≤ value64 (convRh 0x8000) ∧ value64 (convRh 0x8000) ≤ 100 := by
  have h : fracOf (convRh 0x8000) = ⟨7951668092076032, -47⟩ := by decide +kernel
  simp only [value64, h, valueOf]
  norm_num [zpow_neg]

/-- RoundingIsToNearestEven: a value below the bound and a finite neighbour, at a tie. -/
theorem witness_rounding :
    |valueOf ⟨2 ^ 53 + 1, 0⟩| < 2 ^ (1023 : ℤ) ∧ finite64 0x4340000000000001 := by
  constructor
  · have h : (2 : ℚ) ^ 54 ≤ 2 ^ (1023 : ℤ) := by
      rw [← zpow_natCast]
      exact zpow_le_zpow_right₀ (by norm_num) (by norm_num)
    refine lt_of_lt_of_le ?_ h
    simp only [valueOf]
    norm_num
  · unfold finite64
    decide

/-- HostRegisterMap: the reserved numbers at the ends of their ranges. -/
theorem witness_reserved_numbers : ((0x08 : Nat) < 9 ∧ 9 < 0x10) ∧ ((0x08 : Nat) < 15 ∧ 15 < 0x10) ∧ 0x17 < 24 := by decide

/-- StepKeepsTheInvariant and BuiltInRegistersNeverChange: a running request in a state that meets the invariant, and its step. -/
theorem witness_invariant :
    ({ at_ 0x5 0 0 .settle with status := 0x01, wstat := .of 0 } : State).inv = true ∧
    ({ at_ 0x5 0 0 .settle with status := 0x01, wstat := .of 0 } : State).paramsLoaded = true ∧
    ∃ t, step { at_ 0x5 0 0 .settle with status := 0x01, wstat := .of 0 } = .next t := ⟨by decide +kernel, by decide, _, rfl⟩

/-- EveryRequestCompletes: the longest request, just accepted, with no hang listed. -/
theorem witness_completion :
    ({ at_ 0x6 0 0 .write with status := 0x01 } : State).inv = true ∧ (at_ 0x6 0 0 .write).noHang = true ∧
    (at_ 0x6 0 0 .write).resetIn = false := by decide +kernel

/-- The reset state with a request offered and the transport's answers listed. -/
def scripted (w : ReqWord) (ws : List Byte) (rs : List ReadAnswer) : State :=
  { State.reset with reqs := [w], writeAnswers := ws, readAnswers := rs }

/-- A scripted request is the one offered, and its answers are those listed. -/
theorem offers_scripted (op : OpCode) (arg : Byte) (ws : List Byte) (rs : List ReadAnswer) :
    offers (scripted (op ++ arg) ws rs) op arg [] ∧ (scripted (op ++ arg) ws rs).writeAnswers = ws ∧
      (scripted (op ++ arg) ws rs).readAnswers = rs := ⟨⟨rfl, rfl, rfl⟩, rfl, rfl⟩

/-- ResetRunsToCompletion: with a write that fails. -/
theorem witness_reset_run :
    offers (scripted 0x500 [2] []) 0x5 0x00 [] ∧
    (scripted 0x500 [2] []).writeAnswers = 2 :: [] :=
  ⟨⟨rfl, rfl, rfl⟩, rfl⟩

/-- BeginRunsToCompletion: a mismatch after two successful writes, and a failed reset write. -/
theorem witness_begin_run :
    offers (scripted 0x1FF [0, 0] [.bytes [0x3B]]) 0x1 0xFF [] ∧
    (scripted 0x1FF [0, 0] [.bytes [0x3B]]).writeAnswers = 0 :: 0 :: [] ∧
    (scripted 0x1FF [0, 0] [.bytes [0x3B]]).readAnswers = .bytes [0x3B] :: [] ∧
    readIssued (scripted 0x1FF [0, 0] [.bytes [0x3B]]) 0 ∧ (0x3B : Byte) ≠ 0x3A :=
  ⟨⟨rfl, rfl, rfl⟩, rfl, rfl, .inl rfl, by decide⟩
theorem witness_begin_run_ok :
    offers (scripted 0x100 [0, 0] [.bytes [0x3A]]) 0x1 0x00 [] ∧
    (scripted 0x100 [0, 0] [.bytes [0x3A]]).writeAnswers = 0 :: 0 :: [] ∧
    (scripted 0x100 [0, 0] [.bytes [0x3A]]).readAnswers = .bytes [0x3A] :: [] ∧
    readIssued (scripted 0x100 [0, 0] [.bytes [0x3A]]) 0 :=
  ⟨⟨rfl, rfl, rfl⟩, rfl, rfl, .inl rfl⟩
theorem witness_begin_run_fails :
    offers (scripted 0x100 [1] []) 0x1 0x00 [] ∧
    (scripted 0x100 [1] []).writeAnswers = 1 :: [] ∧ (1 : Byte) ≠ 0 :=
  ⟨⟨rfl, rfl, rfl⟩, rfl, by decide⟩

/-- ReadRhRunsToCompletion and ReadTRunsToCompletion: the answer of program P1. -/
theorem witness_measurement_runs :
    ∀ op : OpCode,
      let s := scripted (op ++ (0x00 : Byte)) [0] [.bytes [0x7C, 0x80, 0xF5]]
      offers s op 0x00 [] ∧ s.writeAnswers = 0 :: [] ∧ readIssued s 0 ∧
        s.readAnswers = .bytes (if s.params.capChecksum then [0x7C, 0x80, 0xF5] else [0x7C, 0x80]) :: [] :=
  fun _ => ⟨(offers_scripted _ _ _ _).1, rfl, .inl rfl, rfl⟩

/-- ReadLastTRunsToCompletion. -/
theorem witness_readLastT_run :
    offers (scripted 0x400 [0] [.bytes [0x66, 0x4C]]) 0x4 0x00 [] ∧
    (scripted 0x400 [0] [.bytes [0x66, 0x4C]]).writeAnswers = 0 :: [] ∧
    (scripted 0x400 [0] [.bytes [0x66, 0x4C]]).readAnswers = .bytes [0x66, 0x4C] :: [] ∧
    readIssued (scripted 0x400 [0] [.bytes [0x66, 0x4C]]) 0 :=
  ⟨⟨rfl, rfl, rfl⟩, rfl, rfl, .inl rfl⟩

/-- ReadDevinfoRunsToCompletion: program P4's second request, whose middle write fails, with P_READ_ON_WRITE_FAIL. -/
def devinfoRun : State :=
  { scripted 0x600 [0, 4, 0] [.bytes [0x11, 0xAA, 0x22, 0xBB, 0x33, 0xCC, 0x44, 0xDD],
      .bytes [0x99, 0x00, 0x98, 0x00, 0x97, 0x00, 0x96, 0x00], .bytes [0x20]] with
    params := { Config.params with readOnWriteFail := true } }

theorem witness_devinfo_run :
    offers devinfoRun 0x6 0x00 [] ∧ devinfoRun.params.capDevinfo = true ∧ devinfoRun.writeAnswers = 0 :: 4 :: 0 :: [] ∧
    readIssued devinfoRun 0 ∧ readIssued devinfoRun 4 ∧
    devinfoRun.readAnswers = .bytes [0x11, 0xAA, 0x22, 0xBB, 0x33, 0xCC, 0x44, 0xDD] ::
      .bytes [0x99, 0x00, 0x98, 0x00, 0x97, 0x00, 0x96, 0x00] :: .bytes [0x20] :: [] :=
  ⟨⟨rfl, rfl, rfl⟩, rfl, rfl, .inr rfl, .inr rfl, rfl⟩

/-- SetHeaterEnRunsToCompletion and SetHeaterPwrRunsToCompletion: the requests of program P2. -/
theorem witness_heater_runs :
    ∀ (op : OpCode) (arg b : Byte),
      let s := scripted (op ++ arg) [0, 0] [.bytes [b]]
      offers s op arg [] ∧ s.params.capHeater = true ∧ s.writeAnswers = 0 :: 0 :: [] ∧ readIssued s 0 ∧
        s.readAnswers = .bytes [b] :: [] :=
  fun _ _ _ => ⟨(offers_scripted _ _ _ _).1, rfl, rfl, .inl rfl, rfl⟩

end Sys2Proof.Tests
end

section
/-! `fl64` of the result decoder (R11): the significand is the nearest integer at the result's last place, ties to even, and no
binary64 off that grid comes as near. -/

namespace Sys2Proof.Proofs.Rounding

open Sys2Proof.Machine Sys2Proof.Claims

/-! ## Nearest integers -/

/-- `n` is a nearest integer to `w`, and is even where `w` lies halfway between two integers. -/
def IsNearestEven (n : ℤ) (w : ℚ) : Prop := |n - w| ≤ 1 / 2 ∧ (|n - w| = 1 / 2 → Even n)

theorem IsNearestEven.refl (n : ℤ) : IsNearestEven n n := by simp [IsNearestEven]

theorem IsNearestEven.neg {n : ℤ} {w : ℚ} (h : IsNearestEven n w) : IsNearestEven (-n) (-w) := by
  have hdist : |((-n : ℤ) : ℚ) - -w| = |n - w| := by
    rw [Int.cast_neg, ← abs_neg]; congr 1; ring
  simpa only [IsNearestEven, hdist, even_neg] using h

/-- Rounding does not pass an integer lower bound. -/
theorem IsNearestEven.le_of_le {n k : ℤ} {w : ℚ} (h : IsNearestEven n w) (hk : k ≤ w) : k ≤ n := by
  have hlow := (abs_le.mp h.1).1
  have : (k : ℚ) < n + 1 := by linarith
  exact Int.lt_add_one_iff.mp (by exact_mod_cast this)

/-- Rounding does not pass an integer upper bound. -/
theorem IsNearestEven.ge_of_ge {n k : ℤ} {w : ℚ} (h : IsNearestEven n w) (hk : w ≤ k) : n ≤ k := by
  have hup := (abs_le.mp h.1).2
  have : (n : ℚ) < k + 1 := by linarith
  exact Int.lt_add_one_iff.mp (by exact_mod_cast this)

/-- Another integer is at least half away. -/
theorem IsNearestEven.half_le {n k : ℤ} {w : ℚ} (h : IsNearestEven n w) (hkn : k ≠ n) : 1 / 2 ≤ |k - w| := by
  have hgap : (1 : ℚ) ≤ |(k : ℚ) - n| := by exact_mod_cast Int.one_le_abs (sub_ne_zero.mpr hkn)
  have htri := abs_sub_le (k : ℚ) w n
  have hnear := h.1
  rw [abs_sub_comm] at hnear
  linarith

theorem IsNearestEven.dist_le {n : ℤ} {w : ℚ} (h : IsNearestEven n w) (k : ℤ) : |n - w| ≤ |k - w| := by
  by_cases hkn : k = n
  · rw [hkn]
  · exact h.1.trans (h.half_le hkn)

theorem IsNearestEven.even_of_tie {n k : ℤ} {w : ℚ} (h : IsNearestEven n w) (hkn : k ≠ n) (htie : |n - w| = |k - w|) :
    Even n :=
  h.2 (le_antisymm h.1 (htie ▸ h.half_le hkn))

/-- A number below an integer bound that `w` has reached, in magnitude, is farther from `w` than the bound itself. -/
theorem exists_int_dist_lt {y w : ℚ} {b : ℤ} (hy : |y| < b) (hw : b ≤ |w|) : ∃ k : ℤ, |k - w| < |y - w| := by
  obtain ⟨hlow, hup⟩ := abs_lt.mp hy
  rcases le_abs.mp hw with hpos | hneg
  · refine ⟨b, ?_⟩
    rw [abs_of_nonpos (by linarith), abs_of_neg (by linarith)]
    linarith
  · refine ⟨-b, ?_⟩
    rw [Int.cast_neg, abs_of_nonneg (by linarith), abs_of_pos (by linarith)]
    linarith

/-! ## The significand -/

@[simp] theorem abs_two_zpow (q : ℤ) : |(2 : ℚ) ^ q| = 2 ^ q := abs_of_pos (by positivity)

theorem isNearestEven_of_lt_half {q : ℕ} {ρ : ℚ} (h0 : 0 ≤ ρ) (hρ : ρ < 1 / 2) : IsNearestEven (q : ℕ) (q + ρ) := by
  have hdist : |((q : ℤ) : ℚ) - (q + ρ)| = ρ := by
    rw [Int.cast_natCast, sub_add_cancel_left, abs_neg, abs_of_nonneg h0]
  exact ⟨hdist.trans_le hρ.le, fun h => absurd (hdist.symm.trans h) hρ.ne⟩

/-- At a tie `q % 2` moves an odd `q` up to the even neighbour. -/
theorem isNearestEven_of_half (q : ℕ) : IsNearestEven (q + q % 2 : ℕ) (q + 1 / 2) := by
  have hdist : |((q + q % 2 : ℕ) : ℤ) - ((q : ℚ) + 1 / 2)| = 1 / 2 := by
    rw [Int.cast_natCast, Nat.cast_add, add_sub_add_left_eq_sub]
    rcases Nat.mod_two_eq_zero_or_one q with h | h
    · norm_num [h, abs_of_neg]
    · norm_num [h, abs_of_pos]
  exact ⟨hdist.le, fun _ => by rw [Int.even_coe_nat, Nat.even_iff]; omega⟩

theorem isNearestEven_of_half_lt {q : ℕ} {ρ : ℚ} (hρ : 1 / 2 < ρ) (h1 : ρ ≤ 1) : IsNearestEven (q + 1 : ℕ) (q + ρ) := by
  have hdist : |((q + 1 : ℕ) : ℤ) - ((q : ℚ) + ρ)| = 1 - ρ := by
    rw [Int.cast_natCast, Nat.cast_add, Nat.cast_one, add_sub_add_left_eq_sub, abs_of_nonneg (by linarith)]
  exact ⟨by rw [hdist]; linarith, fun h => by rw [hdist] at h; linarith⟩

/-- `shiftRne` is the quotient by `2 ^ k`, rounded. -/
theorem shiftRne_isNearestEven (m k : ℕ) : IsNearestEven (shiftRne m k : ℕ) ((m : ℚ) / 2 ^ k) := by
  have hpos : (0 : ℚ) < 2 ^ k := by positivity
  have hquot : (m : ℚ) / 2 ^ k = (m / 2 ^ k : ℕ) + (m % 2 ^ k : ℕ) / 2 ^ k := by
    rw [div_eq_iff hpos.ne', add_mul, div_mul_cancel₀ _ hpos.ne']
    exact_mod_cast (Nat.div_add_mod' m (2 ^ k)).symm
  have hrem : ((m % 2 ^ k : ℕ) : ℚ) / 2 ^ k < 1 := by
    rw [div_lt_one hpos]
    exact_mod_cast Nat.mod_lt m (by positivity)
  have hrem0 : (0 : ℚ) ≤ (m % 2 ^ k : ℕ) / 2 ^ k := by positivity
  have hlt : 2 * (m % 2 ^ k) < 2 ^ k ↔ ((m % 2 ^ k : ℕ) : ℚ) / 2 ^ k < 1 / 2 := by
    rw [div_lt_div_iff₀ hpos two_pos, mul_comm, one_mul]
    exact_mod_cast Iff.rfl
  have heq : 2 * (m % 2 ^ k) = 2 ^ k ↔ ((m % 2 ^ k : ℕ) : ℚ) / 2 ^ k = 1 / 2 := by
    rw [div_eq_div_iff hpos.ne' two_ne_zero, mul_comm, one_mul]
    exact_mod_cast Iff.rfl
  rw [hquot]
  simp only [shiftRne, hlt, heq]
  generalize m / 2 ^ k = q at *
  generalize ((m % 2 ^ k : ℕ) : ℚ) / 2 ^ k = ρ at *
  split_ifs with hbelow htie
  · exact isNearestEven_of_lt_half hrem0 hbelow
  · rw [htie]
    exact isNearestEven_of_half q
  · exact isNearestEven_of_half_lt (lt_of_le_of_ne (not_lt.mp hbelow) (Ne.symm htie)) hrem.le

/-- `m * 2 ^ e` in units of the last place. -/
def inQuanta (m : ℕ) (e : ℤ) : ℚ := m * 2 ^ (e - quantumExp m e)

theorem inQuanta_mul (m : ℕ) (e : ℤ) : inQuanta m e * 2 ^ quantumExp m e = m * 2 ^ e := by
  rw [inQuanta, mul_assoc, ← zpow_add₀ two_ne_zero, sub_add_cancel]

/-- The significand is the exact value in units of the last place, rounded. -/
theorem significand_isNearestEven (m : ℕ) (e : ℤ) : IsNearestEven (significand m e : ℕ) (inQuanta m e) := by
  simp only [significand, inQuanta]
  generalize quantumExp m e = q
  split_ifs with hq
  · have hexact : (m : ℚ) * 2 ^ (e - q) = ((m * 2 ^ (e - q).toNat : ℕ) : ℤ) := by
      rw [← Int.toNat_of_nonneg (sub_nonneg.mpr hq), zpow_natCast]
      push_cast
      rfl
    rw [hexact]
    exact .refl _
  · have hquot : (m : ℚ) * 2 ^ (e - q) = m / 2 ^ (q - e).toNat := by
      rw [div_eq_mul_inv, ← zpow_natCast, ← zpow_neg, Int.toNat_of_nonneg (by omega), neg_sub]
    rw [hquot]
    exact shiftRne_isNearestEven _ _

theorem log2_le_natCast {m : ℕ} (hm : m ≠ 0) : (2 : ℚ) ^ (Nat.log2 m : ℤ) ≤ m := by
  rw [zpow_natCast]; exact_mod_cast Nat.log2_self_le hm

theorem natCast_lt_log2_succ (m : ℕ) : (m : ℚ) < 2 ^ ((Nat.log2 m : ℤ) + 1) := by
  exact_mod_cast Nat.lt_log2_self (n := m)

/-- The significand has at most 53 bits, before the carry. -/
theorem inQuanta_le (m : ℕ) (e : ℤ) : inQuanta m e ≤ 2 ^ 53 :=
  have hexp : (Nat.log2 m : ℤ) + 1 + (e - quantumExp m e) ≤ 53 := by unfold quantumExp; omega
  calc inQuanta m e ≤ 2 ^ ((Nat.log2 m : ℤ) + 1) * 2 ^ (e - quantumExp m e) :=
        mul_le_mul_of_nonneg_right (natCast_lt_log2_succ m).le (by positivity)
    _ = 2 ^ ((Nat.log2 m : ℤ) + 1 + (e - quantumExp m e)) := (zpow_add₀ two_ne_zero _ _).symm
    _ ≤ 2 ^ (53 : ℤ) := zpow_le_zpow_right₀ one_le_two hexp
    _ = 2 ^ 53 := by norm_num

/-- Above the subnormal range the significand has all of its 53 bits. -/
theorem le_inQuanta {m : ℕ} {e : ℤ} (hm : m ≠ 0) (hq : quantumExp m e ≠ -1074) : 2 ^ 52 ≤ inQuanta m e :=
  have hexp : (52 : ℤ) = Nat.log2 m + (e - quantumExp m e) := by unfold quantumExp at hq ⊢; omega
  calc (2 : ℚ) ^ 52 = 2 ^ (52 : ℤ) := by norm_num
    _ = 2 ^ (Nat.log2 m : ℤ) * 2 ^ (e - quantumExp m e) := by rw [← zpow_add₀ two_ne_zero, ← hexp]
    _ ≤ inQuanta m e := mul_le_mul_of_nonneg_right (log2_le_natCast hm) (by positivity)

theorem quantumExp_ge (m : ℕ) (e : ℤ) : -1074 ≤ quantumExp m e := le_max_right _ _

/-- Below 2^1023 the last place stays far from overflow. -/
theorem quantumExp_le {m : ℕ} {e : ℤ} (hm : m ≠ 0) (hlt : (m : ℚ) * 2 ^ e < 2 ^ (1023 : ℤ)) :
    quantumExp m e ≤ 970 := by
  have hpow : (2 : ℚ) ^ ((Nat.log2 m : ℤ) + e) < 2 ^ (1023 : ℤ) :=
    calc (2 : ℚ) ^ ((Nat.log2 m : ℤ) + e) = 2 ^ (Nat.log2 m : ℤ) * 2 ^ e := zpow_add₀ two_ne_zero _ _
      _ ≤ m * 2 ^ e := mul_le_mul_of_nonneg_right (log2_le_natCast hm) (by positivity)
      _ < 2 ^ (1023 : ℤ) := hlt
  have hexp := (zpow_lt_zpow_iff_right₀ one_lt_two).mp hpow
  unfold quantumExp
  omega

theorem significand_le (m : ℕ) (e : ℤ) : significand m e ≤ 2 ^ 53 := by
  have h := (significand_isNearestEven m e).ge_of_ge (k := (2 ^ 53 : ℕ)) (by push_cast; exact inQuanta_le m e)
  exact Int.ofNat_le.mp h

theorem le_significand {m : ℕ} {e : ℤ} (hm : m ≠ 0) (hq : quantumExp m e ≠ -1074) : 2 ^ 52 ≤ significand m e := by
  have h := (significand_isNearestEven m e).le_of_le (k := (2 ^ 52 : ℕ)) (by push_cast; exact le_inQuanta hm hq)
  exact Int.ofNat_le.mp h

/-! ## Bit patterns -/

/-- The integer significand a pattern encodes, with the hidden bit. -/
def codedMag (b : Bin64) : ℕ :=
  if (b.toNat / 2 ^ 52) % 2 ^ 11 = 0 then b.toNat % 2 ^ 52 else 2 ^ 52 + b.toNat % 2 ^ 52

/-- The exponent of a pattern's last place. -/
def codedExp (b : Bin64) : ℤ :=
  if (b.toNat / 2 ^ 52) % 2 ^ 11 = 0 then -1074 else ((b.toNat / 2 ^ 52) % 2 ^ 11 : ℕ) - 1075

/-- The sign of a number, as a factor. -/
def signFactor (neg : Bool) : ℤ := if neg then -1 else 1

theorem signFactor_mul_natAbs (z : ℤ) : signFactor (decide (z < 0)) * z.natAbs = z := by
  by_cases h : z < 0
  · simp [signFactor, h, abs_of_neg]
  · simp [signFactor, h, abs_of_nonneg (not_lt.mp h)]

theorem abs_signFactor_mul (neg : Bool) (y : ℚ) : |signFactor neg * y| = |y| := by
  cases neg <;> simp [signFactor]

theorem IsNearestEven.signFactor_mul {n : ℤ} {w : ℚ} (h : IsNearestEven n w) (neg : Bool) :
    IsNearestEven (signFactor neg * n) (signFactor neg * w) := by
  cases neg
  · simpa [signFactor] using h
  · simpa [signFactor] using h.neg

theorem even_signFactor_mul (neg : Bool) (n : ℤ) : Even (signFactor neg * n) ↔ Even n := by
  cases neg <;> simp [signFactor]

/-- A pattern's value by its three fields. -/
theorem value64_eq (b : Bin64) : value64 b = (signFactor (b.getLsbD 63) * codedMag b : ℤ) * 2 ^ codedExp b := by
  have hnum : (fracOf b).num = signFactor (b.getLsbD 63) * codedMag b := by
    unfold fracOf signFactor codedMag
    cases b.getLsbD 63
    · exact (one_mul _).symm
    · exact (neg_one_mul _).symm
  rw [value64, valueOf, hnum]
  by_cases hmag : codedMag b = 0
  · simp [hmag]
  · have hexp : (fracOf b).exp = codedExp b := if_neg hmag
    rw [hexp]

theorem codedMag_lt (b : Bin64) : codedMag b < 2 ^ 53 := by
  unfold codedMag; split <;> omega

theorem codedExp_ge (b : Bin64) : -1074 ≤ codedExp b := by
  unfold codedExp; split <;> omega

/-- A pattern lies on the grid of `2 ^ q`, or its last place is a finer one and its magnitude is below `2 ^ 52 * 2 ^ q`. -/
theorem value64_on_grid_or_small (b : Bin64) (q : ℤ) :
    (∃ k : ℤ, value64 b = k * 2 ^ q) ∨ codedExp b < q ∧ |value64 b| < 2 ^ 52 * 2 ^ q := by
  rcases le_or_gt q (codedExp b) with hq | hq
  · refine .inl ⟨signFactor (b.getLsbD 63) * codedMag b * 2 ^ (codedExp b - q).toNat, ?_⟩
    have hsplit : (2 : ℚ) ^ codedExp b = 2 ^ (codedExp b - q).toNat * 2 ^ q := by
      rw [← zpow_natCast, Int.toNat_of_nonneg (sub_nonneg.mpr hq), ← zpow_add₀ two_ne_zero, sub_add_cancel]
    rw [value64_eq, hsplit]
    push_cast
    ring
  · refine .inr ⟨hq, ?_⟩
    calc |value64 b| = codedMag b * 2 ^ codedExp b := by
          rw [value64_eq, abs_mul, abs_two_zpow, Int.cast_mul, abs_signFactor_mul, Int.cast_natCast, Nat.abs_cast]
      _ < 2 ^ 53 * 2 ^ codedExp b := by
          gcongr
          exact_mod_cast codedMag_lt b
      _ ≤ 2 ^ 53 * 2 ^ (q - 1) := by
          gcongr
          · norm_num
          · omega
      _ = 2 ^ 52 * 2 ^ q := by rw [zpow_sub_one₀ two_ne_zero]; ring

/-- The pattern with biased exponent `E`, before a carry, and significand `S`, its hidden bit counted in. -/
def packed (neg : Bool) (E S : ℕ) : Bin64 := BitVec.ofNat 64 ((if neg then 2 ^ 63 else 0) + (E * 2 ^ 52 + S))

section
variable {neg : Bool} {E S : ℕ} (hE : E ≤ 2044) (hS : S ≤ 2 ^ 53)
include hE hS

theorem packed_toNat : (packed neg E S).toNat = (if neg then 2 ^ 63 else 0) + (E * 2 ^ 52 + S) := by
  rw [packed, BitVec.toNat_ofNat]
  apply Nat.mod_eq_of_lt
  split <;> omega

theorem packed_sign : (packed neg E S).getLsbD 63 = neg := by
  rw [← BitVec.msb_eq_getLsbD_last, BitVec.msb_eq_decide, packed_toNat hE hS]
  cases neg
  · simp
    omega
  · simp

theorem packed_expField : ((packed neg E S).toNat / 2 ^ 52) % 2 ^ 11 = E + S / 2 ^ 52 := by
  rw [packed_toNat hE hS]
  split <;> omega

theorem packed_fracField : (packed neg E S).toNat % 2 ^ 52 = S % 2 ^ 52 := by
  rw [packed_toNat hE hS]
  split <;> omega

theorem packed_lastBit (heven : Even S) : (packed neg E S).getLsbD 0 = false := by
  have hmod : (packed neg E S).toNat % 2 = 0 := by
    rw [packed_toNat hE hS]
    have := Nat.even_iff.mp heven
    split <;> omega
  rw [BitVec.getLsbD, Nat.testBit_zero, hmod]
  rfl

theorem packed_finite : finite64 (packed neg E S) := by
  intro hinf
  have hfield := congrArg BitVec.toNat hinf
  rw [BitVec.extractLsb'_toNat, Nat.shiftRight_eq_div_pow, packed_expField hE hS] at hfield
  have hcarry : S / 2 ^ 52 ≤ 2 := by omega
  simp at hfield
  omega

/-- The pattern's value; a carry out of the fraction has moved into the exponent (`S = 2 ^ 53`). -/
theorem value64_packed (hnorm : E = 0 ∨ 2 ^ 52 ≤ S) :
    value64 (packed neg E S) = (signFactor neg * S : ℤ) * 2 ^ ((E : ℤ) - 1074) := by
  have hcode : (codedMag (packed neg E S) : ℚ) * 2 ^ codedExp (packed neg E S) = S * 2 ^ ((E : ℤ) - 1074) := by
    rw [codedMag, codedExp, packed_expField hE hS, packed_fracField hE hS]
    rcases lt_or_ge S (2 ^ 52) with hsub | hnormal
    · obtain rfl : E = 0 := hnorm.resolve_right (by omega)
      rw [Nat.div_eq_of_lt hsub, Nat.mod_eq_of_lt hsub]
      simp
    · rcases hS.lt_or_eq with hlt | rfl
      · rw [show S / 2 ^ 52 = 1 by omega, if_neg (by omega), if_neg (by omega), show 2 ^ 52 + S % 2 ^ 52 = S by omega]
        congr 2
        push_cast
        ring
      · have hexp : ((E + 2 ^ 53 / 2 ^ 52 : ℕ) : ℤ) - 1075 = (E : ℤ) - 1074 + 1 := by push_cast; ring
        rw [if_neg (by omega), if_neg (by omega), hexp, zpow_add_one₀ two_ne_zero]
        norm_num
        ring
  rw [value64_eq, packed_sign hE hS, Int.cast_mul, Int.cast_mul, mul_assoc, mul_assoc]
  exact congrArg _ (by exact_mod_cast hcode)

end

/-! ## `roundBin64` -/

/-- The pattern `b` is `d` rounded to the grid of `2 ^ q`, at the grid's `n`-th point: the grid is the subnormals' one or `d` has
all of its 53 bits there. -/
structure IsRounding (d : BinFrac) (b : Bin64) (q n : ℤ) : Prop where
  nearest : IsNearestEven n (valueOf d / 2 ^ q)
  subnormal_or_normal : q = -1074 ∨ 2 ^ 52 ≤ |valueOf d / 2 ^ q|
  value : value64 b = n * 2 ^ q
  finite : finite64 b
  lastBit : Even n → b.getLsbD 0 = false

/-- A value is its sign times its magnitude in units of the last place. -/
theorem valueOf_div_quantum (d : BinFrac) :
    valueOf d / 2 ^ quantumExp d.num.natAbs d.exp = signFactor (decide (d.num < 0)) * inQuanta d.num.natAbs d.exp := by
  have hnum : (d.num : ℚ) = signFactor (decide (d.num < 0)) * d.num.natAbs := by
    rw [← Int.cast_natCast, ← Int.cast_mul, signFactor_mul_natAbs]
  rw [div_eq_iff (by positivity), mul_assoc, inQuanta_mul, ← mul_assoc, ← hnum, valueOf]

theorem abs_valueOf (d : BinFrac) : |valueOf d| = d.num.natAbs * 2 ^ d.exp := by
  rw [valueOf, abs_mul, abs_two_zpow, Nat.cast_natAbs, Int.cast_abs]

/-- Below 2^1023 the minimum with infinity's bits is not reached. -/
theorem roundBin64_eq_packed {d : BinFrac} (hm : d.num.natAbs ≠ 0) (hq : quantumExp d.num.natAbs d.exp ≤ 970) :
    roundBin64 d = packed (decide (d.num < 0)) (quantumExp d.num.natAbs d.exp + 1074).toNat
      (significand d.num.natAbs d.exp) := by
  have hS := significand_le d.num.natAbs d.exp
  rw [roundBin64, magnitudeBits, if_neg hm, packed, min_eq_left (by omega)]
  simp only [decide_eq_true_eq]

theorem roundBin64_zero {d : BinFrac} (hm : d.num = 0) : roundBin64 d = packed false 0 0 := by
  simp [roundBin64, magnitudeBits, packed, hm]

theorem roundBin64_isRounding_zero {d : BinFrac} (hz : d.num = 0) : IsRounding d (roundBin64 d) (-1074) 0 where
  nearest := by simpa [valueOf, hz] using IsNearestEven.refl 0
  subnormal_or_normal := .inl rfl
  value := by rw [roundBin64_zero hz, value64_packed (by omega) (by omega) (.inl rfl)]; simp
  finite := roundBin64_zero hz ▸ packed_finite (by omega) (by omega)
  lastBit _ := roundBin64_zero hz ▸ packed_lastBit (by omega) (by omega) .zero

theorem roundBin64_isRounding_of_ne_zero {d : BinFrac} (hm : d.num.natAbs ≠ 0)
    (hq : quantumExp d.num.natAbs d.exp ≤ 970) :
    IsRounding d (roundBin64 d) (quantumExp d.num.natAbs d.exp)
      (signFactor (decide (d.num < 0)) * significand d.num.natAbs d.exp) := by
  have hq0 := quantumExp_ge d.num.natAbs d.exp
  have hE : (quantumExp d.num.natAbs d.exp + 1074).toNat ≤ 2044 := by omega
  have hS := significand_le d.num.natAbs d.exp
  have hrange := eq_or_ne (quantumExp d.num.natAbs d.exp) (-1074)
  rw [roundBin64_eq_packed hm hq]
  refine ⟨?nearest, ?normal, ?value, packed_finite hE hS, fun heven => packed_lastBit hE hS ?even⟩
  case nearest =>
    rw [valueOf_div_quantum]
    exact (significand_isNearestEven _ _).signFactor_mul _
  case normal =>
    rw [valueOf_div_quantum, abs_signFactor_mul]
    exact hrange.imp_right fun h => (le_inQuanta hm h).trans (le_abs_self _)
  case value =>
    rw [value64_packed hE hS (hrange.imp (fun h => by omega) (le_significand hm)), Int.toNat_of_nonneg (by omega),
      add_sub_cancel_right]
  case even => exact_mod_cast (even_signFactor_mul _ _).mp heven

/-- Below 2^1023, `roundBin64` rounds on one of binary64's grids. -/
theorem exists_isRounding {d : BinFrac} (hd : |valueOf d| < 2 ^ (1023 : ℤ)) : ∃ q n, IsRounding d (roundBin64 d) q n := by
  by_cases hz : d.num = 0
  · exact ⟨_, _, roundBin64_isRounding_zero hz⟩
  · have hm : d.num.natAbs ≠ 0 := Int.natAbs_ne_zero.mpr hz
    exact ⟨_, _, roundBin64_isRounding_of_ne_zero hm (quantumExp_le hm (abs_valueOf d ▸ hd))⟩

/-- Off the grid the result was rounded on, no binary64 is as near as some point of that grid. -/
theorem exists_grid_point_dist_lt {d : BinFrac} {b : Bin64} {q n : ℤ} (h : IsRounding d b q n) (x : Bin64)
    (hx : ∀ k : ℤ, value64 x ≠ k * 2 ^ q) :
    ∃ k : ℤ, |k - valueOf d / 2 ^ q| < |value64 x / 2 ^ q - valueOf d / 2 ^ q| := by
  obtain ⟨k, hk⟩ | ⟨hexp, hsmall⟩ := value64_on_grid_or_small x q
  · exact absurd hk (hx k)
  · have hq : q ≠ -1074 := by have := codedExp_ge x; omega
    refine exists_int_dist_lt (b := 2 ^ 52) ?_ (by push_cast; exact h.subnormal_or_normal.resolve_left hq)
    rw [abs_div, abs_two_zpow, div_lt_iff₀ (by positivity)]
    push_cast
    exact hsmall

/-- A distance from the exact value, in units of the last place. -/
theorem abs_sub_eq_mul (y v : ℚ) (q : ℤ) : |y - v| = |y / 2 ^ q - v / 2 ^ q| * 2 ^ q := by
  rw [← sub_div, abs_div, abs_two_zpow, div_mul_cancel₀ _ (by positivity)]

/-- Settles O41: a binary64 is on the grid the result was rounded on, where the nearest integer decides, or farther away than
some point of that grid. -/
theorem roundingIsToNearestEven : Obligations.RoundingIsToNearestEven := by
  intro d x hd _
  obtain ⟨q, n, h⟩ := exists_isRounding hd
  have hpos : (0 : ℚ) < 2 ^ q := by positivity
  have hres : value64 (roundBin64 d) / 2 ^ q = n := by rw [h.value, mul_div_cancel_right₀ _ hpos.ne']
  rw [abs_sub_eq_mul _ _ q, abs_sub_eq_mul (value64 x) _ q, hres, mul_le_mul_iff_left₀ hpos, mul_left_inj' hpos.ne']
  refine ⟨h.finite, ?_⟩
  by_cases hx : ∃ k : ℤ, value64 x = k * 2 ^ q
  · obtain ⟨k, hk⟩ := hx
    rw [hk, mul_div_cancel_right₀ _ hpos.ne']
    refine ⟨h.nearest.dist_le k, fun htie hne => h.lastBit (h.nearest.even_of_tie (fun hkn => hne ?_) htie)⟩
    rw [h.value, hkn]
  · obtain ⟨k, hk⟩ := exists_grid_point_dist_lt h x (not_exists.mp hx)
    have hfar := (h.nearest.dist_le k).trans_lt hk
    exact ⟨hfar.le, fun htie => absurd htie hfar.ne⟩

end Sys2Proof.Proofs.Rounding
end

section
/-! What an instruction and a step can do, said once for each kind of state: an operation's own decode step and completion, the
bus phases of a wire command, and every way the machine makes a step. -/

namespace Sys2Proof.Proofs.Steps

open Sys2Proof Sys2Proof.Machine Sys2Proof.Claims

/-! ## The meanings behind `exec` -/

/-- The decode step of the operation with code `op` (RESET's reads nothing). -/
def opDecode (op : OpCode) (r : Running) (s : State) : State :=
  match op.toNat with
  | 0x1 => decodeBegin r s
  | 0x2 => decodeReadRh r s
  | 0x3 => decodeReadT r s
  | 0x4 => decodeReadLastT r s
  | 0x6 => decodeReadDevinfo r s
  | 0x7 => decodeHeater r s
  | 0x8 => decodeHeater r s
  | _ => s

/-- The completion of the operation with code `op`. -/
def opFinish (op : OpCode) (r : Running) (s : State) : State :=
  match op.toNat with
  | 0x1 => finishBegin r s
  | 0x5 => finishReset r s
  | 0x6 => finishReadDevinfo r s
  | _ => s.completeDefault

/-- A host request is `hostOp` at its row of R71, with its own decode step and completion. -/
theorem exec_of_requestRow {i : Instr} {op : OpCode} {arg : Byte} (h : requestRow i = some (op, arg)) (s : State) :
    exec i s = .next (s.hostOp (capability s.params op) op arg (opDecode op) (opFinish op)) := by
  cases i <;> cases h <;> rfl

/-- The decoder reads OP:ARG as the instruction of that row of R71. -/
theorem requestRow_of_hostInstr {i : Instr} {op : OpCode} {arg : Byte} (h : hostInstr op arg = some i) :
    requestRow i = some (op, arg) := by
  unfold hostInstr at h
  split at h <;> cases h <;> rename_i hop <;> rw [opCode_of_toNat hop] <;> rfl

/-- A wire command is `runPhase` of the transaction in its row of R72. -/
theorem exec_of_wireRow {i : Instr} {s : State} {cmd : List Byte} {n d : Nat} {hold : Bool}
    (h : wireRow s.params i = some (cmd, n, d, hold)) : exec i s = .next (s.runPhase ⟨cmd, n, d⟩) := by
  cases i <;> cases h <;> rfl

/-- What is no host request is a wire command. -/
theorem exists_wireRow {i : Instr} (h : requestRow i = none) (p : Params) :
    ∃ cmd n d hold, wireRow p i = some (cmd, n, d, hold) := by
  cases i <;> simp [requestRow, wireRow] at h ⊢

/-! ## An operation's own steps -/

/-- Taking the request off the port changes nothing else. -/
theorem takeRequest_eq (s : State) : s.takeRequest = { s with reqs := s.takeRequest.reqs } := by
  unfold State.takeRequest
  split <;> rfl

theorem takeRequest_params (s : State) : s.takeRequest.params = s.params := by rw [takeRequest_eq]

theorem takeRequest_devinfoDone (s : State) : s.takeRequest.devinfoDone = s.devinfoDone := by rw [takeRequest_eq]

theorem dispatch_sameBusSide (s : State) (cap : Bool) (op : OpCode) (arg : Byte) : sameBusSide s (s.dispatch cap op arg) := by
  cases cap <;> simp [State.dispatch, sameBusSide]

theorem dispatch_devinfoDone (s : State) (cap : Bool) (op : OpCode) (arg : Byte) :
    (s.dispatch cap op arg).devinfoDone = s.devinfoDone := by
  cases cap <;> rfl

/-- VALID, CRCREG, RAW, RESULT, REGBUF, SERIAL and FWREV are written only by the operations that own them (R23 to R27, R30). -/
def keepsOthersResults (op : OpCode) (s t : State) : Prop :=
  ((op ≠ 0x2 ∧ op ≠ 0x3) ∨ s.params.capChecksum = false → t.valid = s.valid ∧ t.crcReg = s.crcReg) ∧
    (op ≠ 0x2 ∧ op ≠ 0x3 ∧ op ≠ 0x4 → t.raw = s.raw ∧ t.result = s.result) ∧
    (op ≠ 0x1 ∧ op ≠ 0x7 ∧ op ≠ 0x8 → t.regBuf = s.regBuf) ∧
    (op ≠ 0x6 → t.serial = s.serial ∧ t.fwRev = s.fwRev)

theorem keepsOthersResults_dispatch (s : State) (cap : Bool) (op op' : OpCode) (arg : Byte) :
    keepsOthersResults op s (s.dispatch cap op' arg) := by
  cases cap <;> simp [State.dispatch, keepsOthersResults]

/-- What no decode step writes: the bus-side registers, STATUS, FIRSTERR, SEQ and the mark devinfoDone. -/
def keepsControl (s t : State) : Prop :=
  sameBusSide s t ∧ t.status = s.status ∧ t.firstErr = s.firstErr ∧ t.seq = s.seq ∧ t.devinfoDone = s.devinfoDone

theorem keepsControl_refl (s : State) : keepsControl s s := by simp [keepsControl, sameBusSide]

theorem keepsOthersResults_refl (op : OpCode) (s : State) : keepsOthersResults op s s := by simp [keepsOthersResults]

theorem decodeBegin_frame (r : Running) (s : State) :
    keepsControl s (decodeBegin r s) ∧ keepsOthersResults 0x1 s (decodeBegin r s) := by
  unfold decodeBegin
  split <;> simp [keepsControl, sameBusSide, keepsOthersResults]

theorem decodeHeater_frame {op : OpCode} (hop : op = 0x7 ∨ op = 0x8) (r : Running) (s : State) :
    keepsControl s (decodeHeater r s) ∧ keepsOthersResults op s (decodeHeater r s) := by
  rcases hop with rfl | rfl <;> unfold decodeHeater <;> split <;> simp [keepsControl, sameBusSide, keepsOthersResults]

theorem validate_frame (s : State) :
    keepsControl s s.validate ∧ s.validate.raw = s.raw ∧ s.validate.result = s.result ∧ s.validate.regBuf = s.regBuf ∧
      s.validate.serial = s.serial ∧ s.validate.fwRev = s.fwRev ∧
      (s.params.capChecksum = false → s.validate.valid = s.valid ∧ s.validate.crcReg = s.crcReg) := by
  unfold State.validate
  split <;> simp_all [keepsControl, sameBusSide]

theorem decodeReadDevinfo_frame (r : Running) (s : State) :
    keepsControl s (decodeReadDevinfo r s) ∧ keepsOthersResults 0x6 s (decodeReadDevinfo r s) := by
  unfold decodeReadDevinfo
  split_ifs <;> simp [keepsControl, sameBusSide, keepsOthersResults]

theorem decodeReadLastT_frame (r : Running) (s : State) :
    keepsControl s (decodeReadLastT r s) ∧ keepsOthersResults 0x4 s (decodeReadLastT r s) := by
  simp [decodeReadLastT, keepsControl, sameBusSide, keepsOthersResults]

/-- READ_RH and READ_T decode alike: a measurement, then the validation. -/
theorem measure_frame {op : OpCode} (hop : op = 0x2 ∨ op = 0x3) (s : State) (code : MeasCode) (value : Bin64) :
    keepsControl s (s.setMeasurement code value).validate ∧
      keepsOthersResults op s (s.setMeasurement code value).validate := by
  obtain ⟨hctl, -, -, hreg, hser, hfw, hval⟩ := validate_frame (s.setMeasurement code value)
  refine ⟨hctl, fun h => hval (h.resolve_left ?_), fun h => ?_, fun _ => hreg, fun _ => ⟨hser, hfw⟩⟩
  · rcases hop with rfl | rfl <;> decide
  · rcases hop with rfl | rfl <;> simp at h

/-- What a decode step leaves unchanged (R23 to R27, R30, R40). -/
theorem opDecode_frame (op : OpCode) (r : Running) (s : State) :
    keepsControl s (opDecode op r s) ∧ keepsOthersResults op s (opDecode op r s) := by
  unfold opDecode
  split
  case h_1 hop => rw [opCode_of_toNat hop]; exact decodeBegin_frame r s
  case h_2 hop => exact measure_frame (.inl (opCode_of_toNat hop)) s _ _
  case h_3 hop => exact measure_frame (.inr (opCode_of_toNat hop)) s _ _
  case h_4 hop => rw [opCode_of_toNat hop]; exact decodeReadLastT_frame r s
  case h_5 hop => rw [opCode_of_toNat hop]; exact decodeReadDevinfo_frame r s
  case h_6 hop => exact decodeHeater_frame (.inl (opCode_of_toNat hop)) r s
  case h_7 hop => exact decodeHeater_frame (.inr (opCode_of_toNat hop)) r s
  case h_8 => exact ⟨keepsControl_refl s, keepsOthersResults_refl op s⟩

/-- A heater operation's first decode step fills REGBUF, and its second keeps it (R193, R194). -/
theorem opDecode_heater_regBuf_held {r : Running} {s : State} (hop : r.op = 0x7 ∨ r.op = 0x8)
    (h : r.ustep ≠ 0 → s.regBuf.held = true) : (opDecode r.op r s).regBuf.held = true := by
  have heq : opDecode r.op r s = decodeHeater r s := by rcases hop with hop | hop <;> rw [hop] <;> rfl
  rw [heq, decodeHeater]
  split
  · rfl
  · exact h ‹_›

/-- BEGIN's second decode step fills REGBUF (R131). -/
theorem opDecode_begin_regBuf_held {r : Running} {s : State} (hop : r.op = 0x1) (hu : r.ustep = 1) :
    (opDecode r.op r s).regBuf.held = true := by
  have heq : opDecode r.op r s = decodeBegin r s := by rw [hop]; rfl
  rw [heq, decodeBegin, if_pos hu]
  rfl

/-- BEGIN completes in one way or another. -/
theorem exists_finishBegin_eq (r : Running) (s : State) : ∃ ok err, finishBegin r s = s.complete ok err := by
  unfold finishBegin
  split_ifs <;> exact ⟨_, _, rfl⟩

/-- A completion is `complete`, and READ_DEVINFO's also sets the mark of R24. -/
theorem exists_opFinish_eq (op : OpCode) (r : Running) (s : State) :
    ∃ ok err, opFinish op r s = if op = 0x6 then (s.complete ok err).setDevinfoDone else s.complete ok err := by
  by_cases hop : op = 0x6
  · subst hop
    exact ⟨_, _, rfl⟩
  · simp only [if_neg hop]
    unfold opFinish
    split
    case h_1 => exact exists_finishBegin_eq r s
    case h_2 => exact ⟨_, _, rfl⟩
    case h_3 h6 => exact absurd (opCode_of_toNat h6) hop
    case h_4 => exact ⟨_, _, rfl⟩

theorem opFinish_sameBusSide (op : OpCode) (r : Running) (s : State) : sameBusSide s (opFinish op r s) := by
  obtain ⟨ok, err, h⟩ := exists_opFinish_eq op r s
  rw [h]
  split <;> simp [sameBusSide]

theorem opFinish_keepsOthersResults (op : OpCode) (r : Running) (s : State) : keepsOthersResults op s (opFinish op r s) := by
  obtain ⟨ok, err, h⟩ := exists_opFinish_eq op r s
  rw [h]
  split <;> simp [keepsOthersResults]

theorem opFinish_firstErr (op : OpCode) (r : Running) (s : State) : (opFinish op r s).firstErr = s.firstErr := by
  obtain ⟨ok, err, h⟩ := exists_opFinish_eq op r s
  rw [h]
  split <;> rfl

theorem opFinish_devinfoDone_of_ne {op : OpCode} (hop : op ≠ 0x6) (r : Running) (s : State) :
    (opFinish op r s).devinfoDone = s.devinfoDone := by
  obtain ⟨ok, err, h⟩ := exists_opFinish_eq op r s
  rw [h, if_neg hop]
  rfl

/-! ## Steps -/

/-- An operation completes when no transaction is left, or when BEGIN stops early (R115). -/
theorem currentTx_of_turn_finish {s : State} {r : Running} (hturn : s.turn r = .finish) :
    s.currentTx r = none ∨ beginStops s r = true := by
  unfold State.turn at hturn
  split at hturn
  · exact .inl ‹_›
  · split at hturn
    · split at hturn
      · exact .inr ‹_›
      · cases hturn
    all_goals cases hturn

/-- What a step that is no codec reset can do. -/
inductive RunStep (s : State) : State → Prop where
  /-- IDLE without a request (R114). -/
  | rest (hseq : s.seq = .idle) (hreqs : s.reqs = []) : RunStep s s
  /-- A reserved OP is answered (R78). -/
  | reject {op : OpCode} {arg : Byte} (hop : hostInstr op arg = none) : RunStep s (s.takeRequest.complete false .illegalOp)
  /-- The request offered first is accepted, or answered by dispatch (R100, R118). -/
  | accept {op : OpCode} {arg : Byte} (hseq : s.seq = .idle) (hreqs : s.reqs.head? = some (reqWord op arg))
      (hop : (hostInstr op arg).isSome = true) :
      RunStep s (s.takeRequest.dispatch (capability s.params op) op arg)
  /-- A bus phase of the current transaction (R104). -/
  | bus {r : Running} {tx : Transaction} (hseq : s.seq = .busy r) (htx : s.currentTx r = some tx) : RunStep s (s.runPhase tx)
  /-- An operation's decode step (R115). -/
  | decode {r : Running} (hseq : s.seq = .busy r) (hturn : s.turn r = .decode) :
      RunStep s ((opDecode r.op r s).advance r)
  /-- An operation's completion (R112). -/
  | finish {r : Running} (hseq : s.seq = .busy r) (hturn : s.turn r = .finish) : RunStep s (opFinish r.op r s)

theorem runStep_of_idle {s t : State} (h0 : s.resetIn = false) (hseq : s.seq = .idle) (h : step s = .next t) : RunStep s t := by
  cases hq : s.reqs with
  | nil =>
    have hstay : step s = .next s := by simp [step, State.fetch, State.fetchCode, h0, hseq, hq]
    cases hstay.symm.trans h
    exact .rest hseq hq
  | cons w rest =>
    have htake : s.takeRequest = { s with reqs := rest } := by rw [State.takeRequest_idle hseq, hq]; rfl
    rw [step_of_offer h0 hseq (hq.trans (by rw [reqWord_fields w])), ← htake] at h
    cases hi : hostInstr (reqOp w) (reqArg w) with
    | none =>
      rw [hi] at h
      cases h
      exact .reject hi
    | some i =>
      have hs : s.takeRequest.seq = .idle := by rw [htake]; exact hseq
      have hp : s.takeRequest.params = s.params := by rw [htake]
      rw [hi] at h
      dsimp only at h
      rw [exec_of_requestRow (requestRow_of_hostInstr hi), State.hostOp_idle hs, hp] at h
      cases h
      exact .accept hseq (by rw [hq, reqWord_fields]; rfl) (by rw [hi]; rfl)

theorem runStep_of_busy {s t : State} {r : Running} (h0 : s.resetIn = false) (hseq : s.seq = .busy r) (h : step s = .next t) :
    RunStep s t := by
  rcases step_busy_cases h0 hseq with ⟨tx, -, htx, hstep⟩ | ⟨i, hturn, hi, hstep⟩ | ⟨hop, hstep⟩
  · cases hstep.symm.trans h
    exact .bus hseq htx
  · rw [hstep, exec_of_requestRow (requestRow_of_hostInstr hi)] at h
    rcases hturn with hturn | hturn
    · rw [State.hostOp_decode hseq hturn] at h
      cases h
      exact .decode hseq hturn
    · rw [State.hostOp_finish hseq hturn] at h
      cases h
      exact .finish hseq hturn
  · cases hstep.symm.trans h
    have hreject : RunStep s (s.takeRequest.complete false .illegalOp) := .reject hop
    rwa [State.takeRequest_busy hseq] at hreject

/-- Everything a step can be. -/
theorem step_cases {s t : State} (h : step s = .next t) :
    (s.resetIn = true ∧ t = s.codecReset) ∨ (s.resetIn = false ∧ RunStep s t) := by
  cases h0 : s.resetIn with
  | true =>
    cases (step_of_reset h0).symm.trans h
    exact .inl ⟨rfl, rfl⟩
  | false =>
    cases hseq : s.seq with
    | idle => exact .inr ⟨rfl, runStep_of_idle h0 hseq h⟩
    | busy r => exact .inr ⟨rfl, runStep_of_busy h0 hseq h⟩

end Sys2Proof.Proofs.Steps
end

section
/-! The statements about the state (spec/10_state.md): its values after reset, the invariant of the machine and that every step
keeps it, what wire commands and operations leave unchanged, and the host's register reads. -/

namespace Sys2Proof.Proofs.StateRules

open Sys2Proof Sys2Proof.Machine Sys2Proof.Claims Sys2Proof.Proofs.Steps

/-! ## After reset -/

/-- Settles O1: every register as R42 lists it; CAPS bit by bit. -/
theorem resetLeavesTheListedValues : Obligations.ResetLeavesTheListedValues := by
  intro p
  obtain ⟨hchecksum, hdevinfo, hheater, hrest⟩ := capsByte_bits p
  refine ⟨rfl, rfl, rfl, rfl, rfl, hchecksum, hdevinfo, hheater, hrest, ?_, rfl, rfl, rfl, rfl, rfl, rfl, ?_, rfl, ?_, rfl, rfl,
    rfl⟩ <;> intro k <;> fin_cases k <;> rfl

/-- Settles O47: an IDLE codec with STATUS 0 meets each part of the invariant. -/
theorem resetMeetsTheInvariant : Obligations.ResetMeetsTheInvariant := by
  intro p
  rw [State.inv_iff]
  refine ⟨?_, ?_, ?_, ?_, ?_⟩
  · simp [State.statusLegal, State.resetWith, State.isBusy, statusBusy, statusErr]
  · simp [State.paramsLoaded, State.resetWith]
  · simp [State.validLegal, State.resetWith]
  · rfl
  · rfl

/-! ## The invariant through each kind of step -/

/-- The codec reset leaves the registers of `resetWith`, and the invariant looks at no port. -/
theorem inv_codecReset (s : State) : s.codecReset.inv = true := resetMeetsTheInvariant s.params

theorem inv_takeRequest {s : State} (hi : s.inv = true) : s.takeRequest.inv = true := by
  rw [takeRequest_eq]
  exact hi

/-- Dispatch accepts the request or completes it in the same step (R118). -/
theorem inv_dispatch {s : State} {op : OpCode} {arg : Byte} (hi : s.inv = true) (hop : (hostInstr op arg).isSome = true) :
    (s.dispatch (capability s.params op) op arg).inv = true := by
  unfold State.dispatch
  split
  · exact State.inv_accept hi hop ‹_›
  · exact State.inv_accept_complete hi op arg false .capDisabled

/-- A decode step fills REGBUF where a later step reads it, and writes VALID only with CAP_CHECKSUM. -/
theorem inv_decodeStep {s : State} {r : Running} (hi : s.inv = true) (hseq : s.seq = .busy r) (hturn : s.turn r = .decode) :
    ((opDecode r.op r s).advance r).inv = true := by
  obtain ⟨tx, htx, hph⟩ := State.currentTx_of_turn_decode hturn
  obtain ⟨⟨⟨hparams, hdev, hcaps, hwstat, -⟩, hstatus, herr, -⟩, hvalid, -⟩ := opDecode_frame r.op r s
  obtain ⟨-, -, hval, -, hplace⟩ := (State.inv_iff s).1 hi
  obtain ⟨-, -, -, -, -, hheater, -⟩ := (State.seqLegal_busy_iff hseq).1 hplace
  have hval' : (opDecode r.op r s).validLegal = true := by
    unfold State.validLegal at hval ⊢
    rw [hparams]
    cases hc : s.params.capChecksum with
    | true => rfl
    | false => rwa [(hvalid (.inr hc)).1, ← hc]
  exact State.inv_advance hi hseq htx hph hparams hdev hcaps hstatus hval' herr hwstat
    (fun hop => opDecode_heater_regBuf_held hop (hheater hop)) opDecode_begin_regBuf_held

theorem inv_opFinish {s : State} (hi : s.inv = true) (op : OpCode) (r : Running) : (opFinish op r s).inv = true := by
  obtain ⟨ok, err, h⟩ := exists_opFinish_eq op r s
  rw [h]
  split
  · exact State.inv_complete hi ok err
  · exact State.inv_complete hi ok err

/-- Settles O48, by the kinds of step. -/
theorem stepKeepsTheInvariant : Obligations.StepKeepsTheInvariant := by
  intro s t hi hstep
  obtain ⟨-, rfl⟩ | ⟨-, hrun⟩ := step_cases hstep
  · exact inv_codecReset s
  · cases hrun with
    | rest => exact hi
    | reject => exact State.inv_complete (inv_takeRequest hi) false .illegalOp
    | accept _ _ hop => exact takeRequest_params s ▸ inv_dispatch (inv_takeRequest hi) hop
    | bus hseq htx => exact State.inv_runPhase hi hseq htx
    | decode hseq hturn => exact inv_decodeStep hi hseq hturn
    | @finish r _ _ => exact inv_opFinish hi r.op r

/-! ## What a step never changes -/

/-- DEV_ADDR, CAPS and the parameters, the registers a codec is built with (R8, R22, R31). -/
def keepsBuiltIn (s t : State) : Prop := t.params = s.params ∧ t.devAddr = s.devAddr ∧ t.caps = s.caps

theorem keepsBuiltIn_of_sameBusSide {s t : State} (h : sameBusSide s t) : keepsBuiltIn s t := by
  obtain ⟨hparams, hdev, hcaps, -⟩ := h
  exact ⟨hparams, hdev, hcaps⟩

theorem keepsBuiltIn_takeRequest {s t : State} (h : keepsBuiltIn s.takeRequest t) : keepsBuiltIn s t := by
  rwa [takeRequest_eq] at h

theorem keepsBuiltIn_runPhase (s : State) (tx : Transaction) : keepsBuiltIn s (s.runPhase tx) := by
  obtain ⟨hparams, hdev, hcaps, -⟩ := s.runPhase_frame tx
  exact ⟨hparams, hdev, hcaps⟩

theorem keepsBuiltIn_of_runStep {s t : State} (h : RunStep s t) : keepsBuiltIn s t := by
  cases h with
  | rest => exact ⟨rfl, rfl, rfl⟩
  | reject => exact keepsBuiltIn_takeRequest ⟨rfl, rfl, rfl⟩
  | accept => exact keepsBuiltIn_takeRequest (keepsBuiltIn_of_sameBusSide (dispatch_sameBusSide _ _ _ _))
  | @bus _ tx => exact keepsBuiltIn_runPhase s tx
  | @decode r => exact keepsBuiltIn_of_sameBusSide (opDecode_frame r.op r s).1.1
  | @finish r => exact keepsBuiltIn_of_sameBusSide (opFinish_sameBusSide r.op r s)

/-- A codec reset loads DEV_ADDR and CAPS from the parameters again. -/
theorem keepsBuiltIn_codecReset {s : State} (h : s.paramsLoaded = true) : keepsBuiltIn s s.codecReset := by
  simp only [State.paramsLoaded, Bool.and_eq_true, beq_iff_eq] at h
  obtain ⟨hdev, hcaps⟩ := h
  exact ⟨rfl, hdev.symm, hcaps.symm⟩

/-- Settles O49: a codec reset loads them with the values they had, and no other step writes them. -/
theorem builtInRegistersNeverChange : Obligations.BuiltInRegistersNeverChange := by
  intro s t hloaded hstep
  have hkeep : keepsBuiltIn s t := by
    obtain ⟨-, rfl⟩ | ⟨-, hrun⟩ := step_cases hstep
    · exact keepsBuiltIn_codecReset hloaded
    · exact keepsBuiltIn_of_runStep hrun
  obtain ⟨hparams, hdev, hcaps⟩ := hkeep
  refine ⟨hparams, hdev, hcaps, ?_⟩
  rwa [State.paramsLoaded, hparams, hdev, hcaps]

/-! ## The wire commands -/

theorem rxIs_loadRx (s : State) (bs : List Byte) : rxIs (s.loadRx bs) bs := by
  refine ⟨rfl, fun k => ?_⟩
  fin_cases k <;> rfl

/-- Where no response is read, the DECODE phase comes next, with nothing received (R33). -/
theorem enterResponse_noResponse {tx : Transaction} (hn : tx.n = 0) (s : State) (r : Running) :
    rxIs (s.enterResponse tx r) [] ∧ (s.enterResponse tx r).seq = .busy ⟨r.op, r.arg, r.ustep, .decode⟩ := by
  have hload : s.enterResponse tx r = (s.loadRx []).setSeq (.busy { r with txph := .decode }) := by
    simp [State.enterResponse, hn]
  rw [hload]
  exact ⟨rxIs_loadRx s [], rfl⟩

/-- The WRITE phase records its write and goes on, to the settle delay if there is one (R104). -/
theorem exists_writePhase_eq (s : State) (tx : Transaction) (r : Running) :
    ∃ u : State, u.readAnswers = s.readAnswers ∧ s.writePhase tx r =
      if tx.d > 0 then u.setSeq (.busy { r with txph := .settle }) else u.enterResponse tx r := by
  refine ⟨State.record _ _, ?_, rfl⟩
  simp

/-- Settles O21: with no response, both the WRITE and the SETTLE phase end in `enterResponse`. -/
theorem noResponseLeavesNoBytes : Obligations.NoResponseLeavesNoBytes := by
  intro i s r cmd d hold hrow hseq
  constructor
  · rintro hph rfl
    refine ⟨_, exec_of_wireRow hrow, ?_⟩
    obtain ⟨u, -, hu⟩ := exists_writePhase_eq s ⟨cmd, 0, 0⟩ r
    rw [State.runPhase_write hseq hph, hu, if_neg (Nat.lt_irrefl 0)]
    exact enterResponse_noResponse rfl u r
  · intro hph
    refine ⟨_, exec_of_wireRow hrow, ?_⟩
    rw [State.runPhase_settle hseq hph, State.settlePhase]
    exact enterResponse_noResponse rfl _ r

/-- The same request stands at the same USTEP, in any phase. -/
def staysAt (r : Running) (t : State) : Prop := ∃ ph, t.seq = .busy ⟨r.op, r.arg, r.ustep, ph⟩

/-- The registers and the port that only a WRITE phase changes (R104). -/
def keepsWriteSide (s t : State) : Prop :=
  t.wstat = s.wstat ∧ t.txBuf = s.txBuf ∧ t.txLen = s.txLen ∧ t.firstErr = s.firstErr ∧ t.writeAnswers = s.writeAnswers

theorem enterResponse_frame (s : State) (tx : Transaction) (r : Running) :
    staysAt r (s.enterResponse tx r) ∧ keepsWriteSide s (s.enterResponse tx r) ∧
      (s.enterResponse tx r).readAnswers = s.readAnswers := by
  unfold State.enterResponse
  split <;> simp [staysAt, keepsWriteSide]

theorem writePhase_frame (s : State) (tx : Transaction) (r : Running) :
    staysAt r (s.writePhase tx r) ∧ (s.writePhase tx r).readAnswers = s.readAnswers := by
  obtain ⟨u, hu, heq⟩ := exists_writePhase_eq s tx r
  rw [heq, ← hu]
  split
  · exact ⟨⟨.settle, rfl⟩, rfl⟩
  · obtain ⟨hstay, -, hans⟩ := enterResponse_frame u tx r
    exact ⟨hstay, hans⟩

theorem readPhase_frame {s : State} {r : Running} (hseq : s.seq = .busy r) (tx : Transaction) :
    staysAt r (s.readPhase tx r) ∧ keepsWriteSide s (s.readPhase tx r) := by
  unfold State.readPhase
  split
  · split
    · simp [staysAt, keepsWriteSide]
    · exact ⟨⟨r.txph, hseq⟩, by simp [keepsWriteSide]⟩
  · simp [staysAt, keepsWriteSide]

/-- What each phase of a transaction leaves unchanged (R104). -/
theorem runPhase_busy_frame {s : State} {r : Running} (hseq : s.seq = .busy r) (tx : Transaction) :
    staysAt r (s.runPhase tx) ∧ (r.txph ≠ .write → keepsWriteSide s (s.runPhase tx)) ∧
      (r.txph ≠ .read → (s.runPhase tx).readAnswers = s.readAnswers) ∧ (r.txph = .decode → s.runPhase tx = s) := by
  cases hph : r.txph with
  | write =>
    rw [State.runPhase_write hseq hph]
    obtain ⟨hstay, hans⟩ := writePhase_frame s tx r
    exact ⟨hstay, by simp, fun _ => hans, by simp⟩
  | settle =>
    rw [State.runPhase_settle hseq hph]
    obtain ⟨hstay, hwrite, hans⟩ := enterResponse_frame (s.record (.delay tx.d)) tx r
    exact ⟨hstay, fun _ => hwrite, fun _ => hans, by simp⟩
  | read =>
    rw [State.runPhase_read hseq hph]
    obtain ⟨hstay, hwrite⟩ := readPhase_frame hseq tx
    exact ⟨hstay, fun _ => hwrite, by simp, by simp⟩
  | decode =>
    rw [State.runPhase_decode hseq hph]
    exact ⟨⟨r.txph, hseq⟩, fun _ => by simp [keepsWriteSide], fun _ => rfl, fun _ => rfl⟩

/-- Settles O26: a wire command is one `runPhase`. -/
theorem wireCommandFrame : Obligations.WireCommandFrame := by
  intro i s t hrow hexec
  obtain ⟨cmd, n, d, hold, hwire⟩ := exists_wireRow hrow s.params
  cases (exec_of_wireRow hwire).symm.trans hexec
  refine ⟨?_, fun hidle => State.runPhase_idle hidle _, fun r hseq => runPhase_busy_frame hseq _⟩
  obtain ⟨hparams, hdev, hcaps, hvalid, hdone, hstatus, hrest⟩ := s.runPhase_frame ⟨cmd, n, d⟩
  exact ⟨hparams, hdev, hcaps, hvalid, hstatus, hrest.1, hdone, hrest.2⟩

/-! ## The operations -/

/-- The frame of an operation's own step. -/
def operationKeeps (op : OpCode) (s t : State) : Prop :=
  sameBusSide s t ∧ keepsOthersResults op s t ∧ (op ≠ 0x6 → t.devinfoDone = s.devinfoDone) ∧
    (s.seq ≠ .idle → t.firstErr = s.firstErr)

theorem hostOp_keeps (s : State) (cap : Bool) (op : OpCode) (arg : Byte) :
    operationKeeps op s (s.hostOp cap op arg (opDecode op) (opFinish op)) := by
  obtain ⟨hseq, h⟩ | ⟨r, hseq, -, -, -, h⟩ | ⟨r, hseq, -, -, -, h⟩ | ⟨r, hseq, h⟩ :=
    s.hostOp_cases cap op arg (opDecode op) (opFinish op) <;> rw [h]
  · exact ⟨dispatch_sameBusSide s cap op arg, keepsOthersResults_dispatch s cap op op arg,
      fun _ => dispatch_devinfoDone s cap op arg, fun hbusy => absurd hseq hbusy⟩
  · obtain ⟨⟨hbus, -, herr, -, hdone⟩, hres⟩ := opDecode_frame op r s
    exact ⟨hbus, hres, fun _ => hdone, fun _ => herr⟩
  · exact ⟨opFinish_sameBusSide op r s, opFinish_keepsOthersResults op r s,
      fun hop => opFinish_devinfoDone_of_ne hop r s, fun _ => opFinish_firstErr op r s⟩
  · exact ⟨(keepsControl_refl s).1, keepsOthersResults_refl op s, fun _ => rfl, fun _ => rfl⟩

/-- Settles O35: a request is one `hostOp`. -/
theorem operationFrame : Obligations.OperationFrame := by
  intro i op arg s t hrow hexec
  cases (exec_of_requestRow hrow s).symm.trans hexec
  obtain ⟨hbus, ⟨hvalid, hraw, hreg, hident⟩, hdone, herr⟩ := hostOp_keeps s (capability s.params op) op arg
  exact ⟨hbus, hvalid, hraw, hreg, fun hop => ⟨(hident hop).1, (hident hop).2, hdone hop⟩, herr⟩

/-! ## The host's reads -/

theorem hostRead_serial (s : State) (k : Fin 8) : hostRead s (0x10 + k.val) = readSerial s (0x10 + k.val) s.serial[k] := by
  fin_cases k <;> rfl

/-- A SERIAL byte answers exactly when it is written and a READ_DEVINFO has completed (R24). -/
theorem readSerial_eq (s : State) (number : Nat) (r : Reg Byte) :
    readSerial s number r =
      if s.devinfoDone = true ∧ r.held = true then .next (.bits8 r.val) else .fault (.noValue number) := by
  simp [readSerial, readHeld]

/-- The numbers R36 gives no register. -/
theorem hostRead_reserved (s : State) {n : Nat} (hn : (0x08 < n ∧ n < 0x10) ∨ 0x17 < n) :
    hostRead s n = .refused (.reservedRegister n) := by
  unfold hostRead
  split
  case h_18 => rfl
  all_goals omega

theorem devAddrByte_eq (a : BusAddr) : devAddrByte a = 0#1 ++ a := by
  rw [devAddrByte, BitVec.setWidth_eq_append (by decide)]
  rfl

/-- Settles O46: register by register; the numbers from 0x10 on are SERIAL's bytes. -/
theorem hostRegisterMap : Obligations.HostRegisterMap := by
  intro s
  refine ⟨rfl, rfl, rfl, rfl, rfl, rfl, rfl, rfl, ?_, fun k => ?_, fun n hn => hostRead_reserved s hn⟩
  · exact congrArg (fun b => Host.Outcome.next (HostValue.bits8 b)) (devAddrByte_eq s.devAddr)
  · rw [hostRead_serial, readSerial_eq]

/-- READ_DEVINFO has a transaction at USTEP 0, 1 and 2 (R116), and completes only after all three. -/
theorem ustep_of_devinfo_finish {s : State} {r : Running} (hop : r.op = 0x6) (hturn : s.turn r = .finish) : r.ustep = 3 := by
  obtain hnone | hstops := currentTx_of_turn_finish hturn
  · rw [State.currentTx, hop] at hnone
    revert hnone
    generalize r.ustep = u
    fin_cases u <;> simp [opTransaction]
  · simp [beginStops, hop, opBegin] at hstops

/-- Only a completion of READ_DEVINFO changes the mark. -/
theorem devinfoDone_of_runStep {s t : State} (h : RunStep s t) :
    t.devinfoDone = s.devinfoDone ∨
      t.devinfoDone = true ∧ t.seq = .idle ∧ ∃ r, s.seq = .busy r ∧ r.op = 0x6 ∧ r.ustep = 3 := by
  cases h with
  | rest => exact .inl rfl
  | reject => exact .inl (takeRequest_devinfoDone s)
  | accept => exact .inl ((dispatch_devinfoDone _ _ _ _).trans (takeRequest_devinfoDone s))
  | @bus _ tx =>
    obtain ⟨-, -, -, -, hdone, -⟩ := s.runPhase_frame tx
    exact .inl hdone
  | @decode r =>
    obtain ⟨⟨-, -, -, -, hdone⟩, -⟩ := opDecode_frame r.op r s
    exact .inl hdone
  | @finish r hseq hturn =>
    by_cases hop : r.op = 0x6
    · obtain ⟨ok, err, h⟩ := exists_opFinish_eq r.op r s
      rw [h, if_pos hop]
      exact .inr ⟨rfl, rfl, r, hseq, hop, ustep_of_devinfo_finish hop hturn⟩
    · exact .inl (opFinish_devinfoDone_of_ne hop r s)

/-- Settles O60: the mark decides every read of SERIAL, and a completion of READ_DEVINFO or a codec reset changes the mark. -/
theorem serialIsReadOnlyAfterCompletion : Obligations.SerialIsReadOnlyAfterCompletion := by
  refine ⟨fun s k hdone => ?_, fun s t hstep hs ht => ?_, fun s t hstep hs => ?_⟩
  · rw [hostRead_serial, readSerial_eq, if_neg (by simp [hdone])]
  · obtain ⟨-, rfl⟩ | ⟨-, hrun⟩ := step_cases hstep
    · simp [State.codecReset, State.resetWith] at ht
    · obtain hkeep | ⟨-, hend⟩ := devinfoDone_of_runStep hrun
      · simp [hkeep, hs] at ht
      · exact hend
  · obtain ⟨hreset, rfl⟩ | ⟨hrunning, hrun⟩ := step_cases hstep
    · rw [hreset]; rfl
    · rw [hrunning]
      obtain hkeep | ⟨hset, -⟩ := devinfoDone_of_runStep hrun
      · exact hkeep.trans hs
      · exact hset

end Sys2Proof.Proofs.StateRules
end

section
/-! The observation (R114): what each kind of step adds to it. -/

namespace Sys2Proof.Proofs.Observation

open Sys2Proof Sys2Proof.Machine Sys2Proof.Claims Sys2Proof.Proofs.Steps

/-! ## Steps without an event -/

theorem trace_of_sameBusSide {s t : State} (h : sameBusSide s t) : t.trace = s.trace := by
  obtain ⟨-, -, -, -, -, -, -, -, -, -, -, -, -, htrace⟩ := h
  exact htrace

theorem takeRequest_trace (s : State) : s.takeRequest.trace = s.trace := by rw [takeRequest_eq]

/-- Acceptance and dispatch make no event (R118). -/
theorem dispatch_trace (s : State) (cap : Bool) (op : OpCode) (arg : Byte) : (s.dispatch cap op arg).trace = s.trace :=
  trace_of_sameBusSide (dispatch_sameBusSide s cap op arg)

/-- Decoding is the codec's own work, off the bus (R115). -/
theorem opDecode_advance_trace (op : OpCode) (r : Running) (s : State) :
    ((opDecode op r s).advance r).trace = s.trace := by
  obtain ⟨⟨hbus, -⟩, -⟩ := opDecode_frame op r s
  exact trace_of_sameBusSide hbus

theorem opFinish_trace (op : OpCode) (r : Running) (s : State) : (opFinish op r s).trace = s.trace :=
  trace_of_sameBusSide (opFinish_sameBusSide op r s)

/-! ## The bus phases -/

theorem enterResponse_trace (s : State) (tx : Transaction) (r : Running) : (s.enterResponse tx r).trace = s.trace := by
  unfold State.enterResponse
  split <;> rfl

/-- The WRITE phase makes one write event, to DEV_ADDR (R104, R105). -/
theorem exists_writePhase_trace_eq (s : State) (tx : Transaction) (r : Running) :
    ∃ bytes, (s.writePhase tx r).trace = s.trace ++ [.write s.devAddr bytes tx.hold s.nextStatus] := by
  unfold State.writePhase
  dsimp only
  split
  · exact ⟨_, rfl⟩
  · exact ⟨_, enterResponse_trace _ tx r⟩

/-- The SETTLE phase makes one delay event (R108). -/
theorem settlePhase_trace (s : State) (tx : Transaction) (r : Running) :
    (s.settlePhase tx r).trace = s.trace ++ [.delay tx.d] :=
  enterResponse_trace _ tx r

/-- The READ phase makes one read event, to DEV_ADDR, or none when the read hangs or is skipped (R109, R111). -/
theorem readPhase_trace (s : State) (tx : Transaction) (r : Running) :
    (s.readPhase tx r).trace = s.trace ∨
      ∃ bytes, (s.readPhase tx r).trace = s.trace ++ [.read s.devAddr tx.n bytes] := by
  unfold State.readPhase
  split
  · split
    · exact .inr ⟨_, rfl⟩
    · exact .inl rfl
  · exact .inl rfl

/-! ## One step -/

/-- The observation grows by at most one event, and a bus event carries DEV_ADDR (R22, R59). -/
def growsByAtMostOneEvent (s t : State) : Prop :=
  t.trace = s.trace ∨
    (∃ bytes hold st, t.trace = s.trace ++ [.write s.devAddr bytes hold st]) ∨
    (∃ ms, t.trace = s.trace ++ [.delay ms]) ∨
    (∃ n bytes, t.trace = s.trace ++ [.read s.devAddr n bytes])

/-- Each phase of a transaction makes the one event of its kind. -/
theorem runPhase_growsByAtMostOneEvent {s : State} {r : Running} (hseq : s.seq = .busy r) (tx : Transaction) :
    growsByAtMostOneEvent s (s.runPhase tx) := by
  cases hph : r.txph with
  | write =>
    rw [State.runPhase_write hseq hph]
    obtain ⟨bytes, hwrite⟩ := exists_writePhase_trace_eq s tx r
    exact .inr (.inl ⟨bytes, _, _, hwrite⟩)
  | settle =>
    rw [State.runPhase_settle hseq hph]
    exact .inr (.inr (.inl ⟨_, settlePhase_trace s tx r⟩))
  | read =>
    rw [State.runPhase_read hseq hph]
    obtain hnone | ⟨bytes, hread⟩ := readPhase_trace s tx r
    · exact .inl hnone
    · exact .inr (.inr (.inr ⟨_, bytes, hread⟩))
  | decode =>
    rw [State.runPhase_decode hseq hph]
    exact .inl rfl

theorem growsByAtMostOneEvent_of_runStep {s t : State} (h : RunStep s t) : growsByAtMostOneEvent s t := by
  cases h with
  | rest => exact .inl rfl
  | reject => exact .inl (takeRequest_trace s)
  | accept => exact .inl ((dispatch_trace _ _ _ _).trans (takeRequest_trace s))
  | @bus _ tx hseq => exact runPhase_growsByAtMostOneEvent hseq tx
  | @decode r => exact .inl (opDecode_advance_trace r.op r s)
  | @finish r => exact .inl (opFinish_trace r.op r s)

/-- Settles O14: a codec reset keeps the observation (log entry 12), and of the other steps only a bus phase adds to it. -/
theorem eventsAreTotallyOrdered : Obligations.EventsAreTotallyOrdered := by
  intro s t hstep
  obtain ⟨-, rfl⟩ | ⟨-, hrun⟩ := step_cases hstep
  · exact .inl rfl
  · exact growsByAtMostOneEvent_of_runStep hrun

end Sys2Proof.Proofs.Observation
end

section
/-! The encodings (spec/30_encoding.md): which codes decode to an instruction, the splitting of a command stream, the words of a
request program, the reserved OP codes, and the bits of ARG no command depends on. -/

namespace Sys2Proof.Proofs.Encoding

open Sys2Proof Sys2Proof.Machine Sys2Proof.Claims Sys2Proof.Proofs.Steps

/-! ## Host requests -/

/-- The decoder's operations are the rows of R71. -/
theorem hostInstr_eq_some_iff {op : OpCode} {arg : Byte} {i : Instr} :
    hostInstr op arg = some i ↔ requestRow i = some (op, arg) := by
  refine ⟨requestRow_of_hostInstr, fun h => ?_⟩
  cases i <;> cases h <;> rfl

theorem decode_request_eq_ok_iff {w : ReqWord} {i : Instr} :
    decode (.request w) = .ok i ↔ requestRow i = some (reqOp w, reqArg w) := by
  rw [← hostInstr_eq_some_iff, decode, decodeRequest]
  cases hostInstr (reqOp w) (reqArg w) <;> simp

theorem exists_decode_request_error_iff {w : ReqWord} :
    (∃ e, decode (.request w) = .error e) ↔ reqOp w = 0 ∨ 9 ≤ (reqOp w).toNat := by
  rw [← hostInstr_eq_none_iff (reqOp w) (reqArg w), decode, decodeRequest]
  cases hostInstr (reqOp w) (reqArg w) <;> simp

theorem decode_reqWord {op : OpCode} {arg : Byte} {i : Instr} (h : requestRow i = some (op, arg)) :
    decode (.request (reqWord op arg)) = .ok i := by
  rw [decode_request_eq_ok_iff, reqOp_reqWord, reqArg_reqWord, h]

theorem encode_of_requestRow {i : Instr} {op : OpCode} {arg : Byte} (h : requestRow i = some (op, arg)) :
    encode i = .request (reqWord op arg) := by
  cases i <;> cases h <;> rfl

/-! ## Wire commands -/

theorem encode_of_wireRow {p : Params} {i : Instr} {cmd : List Byte} {n d : Nat} {hold : Bool}
    (h : wireRow p i = some (cmd, n, d, hold)) : encode i = .frame cmd := by
  cases i <;> cases h <;> rfl

/-- Settles O7: the first byte of each row of R72 selects how many bytes `decodeWire` takes. -/
theorem commandStreamsSplit : Obligations.CommandStreamsSplit := by
  intro p i cmd n d hold rest h
  cases i <;> cases h <;> rfl

/-- A command with a fixed second byte is split off only when that byte follows (R73, format W2). -/
theorem decodeW2_eq_ok {b0 second : Byte} {i j : Instr} {bs rest : List Byte} (h : decodeW2 b0 second i bs = .ok (j, rest)) :
    i = j ∧ bs = second :: rest := by
  cases bs with
  | nil => cases h
  | cons b1 bs =>
    rw [decodeW2] at h
    split at h <;> cases h
    exact ⟨rfl, by rw [‹b1 = second›]⟩

/-- A register write is split off with the byte that follows as its data (R73, format WD). -/
theorem decodeWD_eq_ok {b0 : Byte} {mk : Byte → Instr} {j : Instr} {bs rest : List Byte}
    (h : decodeWD b0 mk bs = .ok (j, rest)) : ∃ v, mk v = j ∧ bs = v :: rest := by
  cases bs with
  | nil => cases h
  | cons v bs =>
    cases h
    exact ⟨v, rfl, rfl⟩

/-- What `decodeWire` splits off a stream is the code of the instruction it answers: the converse of R81. -/
theorem eq_append_of_decodeWire {bs rest : List Byte} {i : Instr} (h : decodeWire bs = .ok (i, rest)) :
    ∃ cmd, encode i = .frame cmd ∧ bs = cmd ++ rest := by
  cases bs with
  | nil => cases h
  | cons b0 bs =>
    rw [decodeWire] at h
    split at h
    case h_12 => cases h
    all_goals rename_i hb; obtain rfl := byte_of_toNat hb
    case h_5 | h_7 =>
      obtain ⟨v, rfl, rfl⟩ := decodeWD_eq_ok h
      exact ⟨_, rfl, rfl⟩
    case h_9 | h_10 | h_11 =>
      obtain ⟨rfl, rfl⟩ := decodeW2_eq_ok h
      exact ⟨_, rfl, rfl⟩
    all_goals
      cases h
      exact ⟨_, rfl, rfl⟩

/-- A frame is an instruction when `decodeWire` takes all of it (R105). -/
theorem decode_frame_eq_ok_iff {bs : List Byte} {i : Instr} : decode (.frame bs) = .ok i ↔ decodeWire bs = .ok (i, []) := by
  rw [decode, decodeFrame]
  split <;> simp_all

/-! ## Round trips -/

/-- Settles O4: a request decodes by its fields, a wire command as a stream of one command. Every operand fits its field by its
type, so well-formedness adds nothing. -/
theorem decodeOfEncode : Obligations.DecodeOfEncode := by
  intro i _
  cases hrow : requestRow i with
  | some row =>
    rw [encode_of_requestRow hrow]
    exact decode_reqWord hrow
  | none =>
    obtain ⟨cmd, n, d, hold, hwire⟩ := exists_wireRow hrow Config.params
    rw [encode_of_wireRow hwire, decode_frame_eq_ok_iff]
    simpa using commandStreamsSplit _ i cmd n d hold [] hwire

/-- Settles O5: a request word is its two fields, and a frame is what `decodeWire` splits off it. -/
theorem encodeOfDecode : Obligations.EncodeOfDecode := by
  intro c i h
  cases c with
  | request w => rw [encode_of_requestRow (decode_request_eq_ok_iff.1 h), reqWord_fields]
  | frame bs =>
    obtain ⟨cmd, hcode, rfl⟩ := eq_append_of_decodeWire (decode_frame_eq_ok_iff.1 h)
    rw [hcode, List.append_nil]

/-- Settles O6: `reqOp` and `reqArg` are the fields of R70. -/
theorem requestWordsDecodeByOp : Obligations.RequestWordsDecodeByOp := fun _ _ =>
  ⟨decode_request_eq_ok_iff, exists_decode_request_error_iff⟩

/-- Settles O3: each word computes. -/
theorem sampleWordsDecode : Obligations.SampleWordsDecode :=
  ⟨rfl, rfl, rfl, rfl, rfl, rfl, rfl, rfl, rfl, rfl, rfl⟩

/-! ## Request programs -/

theorem ofNat_eq_reqWord {n : Nat} (hn : n < 256) : BitVec.ofNat 12 n = reqWord 0 (BitVec.ofNat 8 n) := by
  apply BitVec.eq_of_toNat_eq
  have hop : (0 : OpCode).toNat = 0 := rfl
  rw [reqWord_toNat, hop, BitVec.toNat_ofNat, BitVec.toNat_ofNat]
  omega

/-- A number OR-ed into a request word with ARG 0 is its ARG (R83). -/
theorem reqWord_or_ofNat (op : OpCode) {n : Nat} (hn : n < 256) :
    reqWord op 0 ||| BitVec.ofNat 12 n = reqWord op (BitVec.ofNat 8 n) := by
  have hfields : reqWord op 0 ||| reqWord 0 (BitVec.ofNat 8 n) = reqWord (op ||| 0) (0 ||| BitVec.ofNat 8 n) :=
    BitVec.or_append
  rw [ofNat_eq_reqWord hn, hfields]
  simp

theorem assemble_of_illFormed {l : ReqLine} (h : l.wellFormed = false) : assemble l = none := by simp [assemble, h]

theorem exists_assemble_of_wellFormed {l : ReqLine} (h : l.wellFormed = true) : ∃ w, assemble l = some w := by
  simp only [assemble, if_pos h]
  cases l <;> exact ⟨_, rfl⟩

theorem assemble_setHeaterEn {n : Nat} (hn : n < 2) :
    assemble (.setHeaterEn n) = some (0x700 ||| BitVec.ofNat 12 n) := if_pos (decide_eq_true hn)

theorem assemble_setHeaterPwr {n : Nat} (hn : n < 256) :
    assemble (.setHeaterPwr n) = some (0x800 ||| BitVec.ofNat 12 n) := if_pos (decide_eq_true hn)

theorem assemble_raw {n : Nat} (hn : n < 4096) : assemble (.raw n) = some (BitVec.ofNat 12 n) := if_pos (decide_eq_true hn)

/-- Settles O8: OR-ing an operand into an operation's word sets its ARG, so the word decodes to that row of R71. -/
theorem requestLinesAssemble : Obligations.RequestLinesAssemble := by
  refine ⟨fun _ => exists_assemble_of_wellFormed, fun _ => assemble_of_illFormed, ⟨rfl, rfl⟩, ⟨rfl, rfl⟩, ⟨rfl, rfl⟩,
    ⟨rfl, rfl⟩, ⟨rfl, rfl⟩, ⟨rfl, rfl⟩, fun n hn => ⟨_, assemble_setHeaterEn hn, rfl, ?_⟩,
    fun n hn => ⟨_, assemble_setHeaterPwr hn, rfl, ?_⟩, fun n hn => assemble_raw hn⟩
  · have hword : 0x700 ||| BitVec.ofNat 12 n = reqWord 0x7 (BitVec.ofNat 8 n) := reqWord_or_ofNat 0x7 (by omega)
    rw [hword]
    exact decode_reqWord rfl
  · have hword : 0x800 ||| BitVec.ofNat 12 n = reqWord 0x8 (BitVec.ofNat 8 n) := reqWord_or_ofNat 0x8 hn
    rw [hword]
    exact decode_reqWord rfl

/-! ## Reserved OP codes -/

theorem completedWith_statusComplete (ok : Bool) (err : ErrCode) (b : Byte) :
    completedWith (statusComplete ok err b) ok err.code := by
  obtain ⟨hbusy, hdone, hok, herr, -⟩ := statusComplete_fields ok err b
  exact ⟨hbusy, hdone, hok, herr⟩

/-- An offered reserved OP is taken off the port and rejected, which writes STATUS alone in an IDLE codec (R78). -/
theorem step_of_reservedOp {s : State} {op : OpCode} {arg : Byte} {rest : List ReqWord} (h : offers s op arg rest)
    (hop : hostInstr op arg = none) :
    step s = .next { s with reqs := rest, status := statusComplete false .illegalOp s.status } := by
  obtain ⟨hseq, hreset, hreqs⟩ := h
  rw [step_of_offer hreset hseq hreqs, hop]
  exact congrArg Host.Outcome.next (State.rejectRequest_idle (s := { s with reqs := rest }) hseq)

/-- Settles O17: a reserved OP has no operation, so the step rejects the request. -/
theorem reservedOpCompletesAtOnce : Obligations.ReservedOpCompletesAtOnce := by
  intro s op arg rest hoffer hop
  exact ⟨_, step_of_reservedOp hoffer ((hostInstr_eq_none_iff op arg).2 hop),
    completedWith_statusComplete false .illegalOp s.status, rfl⟩

/-! ## The bits of ARG that matter -/

/-- `a` and `b` agree in the bits of ARG that the operation looks at (R75). -/
def agreeInArg (op : OpCode) (a b : Byte) : Prop :=
  op ≠ 0x7 ∧ op ≠ 0x8 ∨ op = 0x7 ∧ a.getLsbD 0 = b.getLsbD 0 ∨ op = 0x8 ∧ a &&& 0x0F = b &&& 0x0F

theorem heaterEnData_eq_of_agreeInArg {a b : Byte} (h : agreeInArg 0x7 a b) (old : Byte) :
    heaterEnData old a = heaterEnData old b := by
  have hbit : a.getLsbD 0 = b.getLsbD 0 := by simpa [agreeInArg] using h
  rw [heaterEnData_eq, heaterEnData_eq, hbit]

theorem heaterPwrData_eq_of_agreeInArg {a b : Byte} (h : agreeInArg 0x8 a b) (old : Byte) :
    heaterPwrData old a = heaterPwrData old b := by
  have hlow : a &&& 0x0F = b &&& 0x0F := by simpa [agreeInArg] using h
  rw [heaterPwrData_eq, heaterPwrData_eq, hlow]

/-- ARG enters a transaction only through the data byte of a heater write (R76, R116). -/
theorem opTransaction_eq_of_agreeInArg {op : OpCode} {a b : Byte} (h : agreeInArg op a b) (p : Params) (old : Byte) (u : Fin 4) :
    opTransaction p op a old u = opTransaction p op b old u := by
  unfold opTransaction
  split
  case h_11 hop _ => rw [heaterEnData_eq_of_agreeInArg (opCode_of_toNat hop ▸ h)]
  case h_13 hop _ => rw [heaterPwrData_eq_of_agreeInArg (opCode_of_toNat hop ▸ h)]
  all_goals rfl

/-- The turn looks at ARG only through the current transaction. -/
theorem turn_eq_of_agreeInArg {s : State} {r : Running} {arg : Byte} (h : agreeInArg r.op arg r.arg) :
    s.turn { r with arg := arg } = s.turn r := by
  have htx : s.currentTx { r with arg := arg } = s.currentTx r := opTransaction_eq_of_agreeInArg h _ _ _
  simp only [State.turn, htx]
  rfl

theorem fetchCode_eq_frame_iff {s : State} {r : Running} (hseq : s.seq = .busy r) {cmd : List Byte} :
    s.fetchCode = some (.frame cmd) ↔ ∃ tx, s.turn r = .bus tx ∧ tx.cmd = cmd := by
  simp only [State.fetchCode, hseq]
  cases s.turn r <;> simp

/-- Settles O37: a command is fetched at a bus turn, and the turn is the same for ARGs that agree where R75 looks. -/
theorem onlyHeaterOperationsReadArg : Obligations.OnlyHeaterOperationsReadArg := by
  intro s r arg hseq _ hagree cmd hcmd
  obtain ⟨tx, hturn, hframe⟩ := (fetchCode_eq_frame_iff hseq).1 hcmd
  refine (fetchCode_eq_frame_iff rfl).2 ⟨tx, ?_, hframe⟩
  exact (turn_eq_of_agreeInArg hagree).trans hturn

end Sys2Proof.Proofs.Encoding
end

section
/-! The bus phases of a transaction (R104 to R111): what each phase of a wire command records, which phase comes next, and the
read that never returns. -/

namespace Sys2Proof.Proofs.BusPhases

open Sys2Proof Sys2Proof.Machine Sys2Proof.Claims Sys2Proof.Proofs.Steps Sys2Proof.Proofs.StateRules
  Sys2Proof.Proofs.Observation

/-! ## The rows of R72 -/

/-- A frame fits TXBUF (R73). -/
theorem cmd_length_of_wireRow {p : Params} {i : Instr} {cmd : List Byte} {n d : Nat} {hold : Bool}
    (h : wireRow p i = some (cmd, n, d, hold)) : cmd.length ≤ 3 := by
  cases i <;> cases h <;> simp

/-- R72's hold column is the flag of R106. -/
theorem hold_of_wireRow {p : Params} {i : Instr} {cmd : List Byte} {n d : Nat} {hold : Bool}
    (h : wireRow p i = some (cmd, n, d, hold)) : hold = (⟨cmd, n, d⟩ : Transaction).hold := by
  cases i <;> cases h <;> simp [Transaction.hold]

/-! ## The phase that comes next -/

theorem enterResponse_seq (s : State) (tx : Transaction) (r : Running) :
    (s.enterResponse tx r).seq = .busy { r with txph := if 0 < tx.n then .read else .decode } := by
  by_cases hn : 0 < tx.n <;> simp [State.enterResponse, hn]

/-- The WRITE phase leads on whatever the status was (R104, R107). -/
theorem writePhase_seq (s : State) (tx : Transaction) (r : Running) :
    (s.writePhase tx r).seq = .busy { r with txph := phaseAfterWrite tx.n tx.d } := by
  unfold State.writePhase phaseAfterWrite
  dsimp only
  split
  · rfl
  · exact enterResponse_seq _ tx r

theorem settlePhase_seq (s : State) (tx : Transaction) (r : Running) :
    (s.settlePhase tx r).seq = .busy { r with txph := if 0 < tx.n then .read else .decode } :=
  enterResponse_seq _ tx r

/-! ## The WRITE phase -/

/-- The state with the write of a transaction sent and its status recorded, before the next phase is chosen (R104 to R107). -/
def sendCommand (s : State) (tx : Transaction) : State :=
  let u := ((s.loadTx tx.cmd).takeStatus.setWstat s.nextStatus).setFirstErr (noteWrite s.nextStatus s.firstErr)
  u.record (.write s.devAddr u.txFrame tx.hold s.nextStatus)

/-- Choosing the next phase touches nothing that the write recorded. -/
theorem writePhase_keeps_sendCommand (s : State) (tx : Transaction) (r : Running) :
    keepsWriteSide (sendCommand s tx) (s.writePhase tx r) ∧ (s.writePhase tx r).trace = (sendCommand s tx).trace := by
  have h : s.writePhase tx r =
      if tx.d > 0 then (sendCommand s tx).setSeq (.busy { r with txph := .settle })
      else (sendCommand s tx).enterResponse tx r := rfl
  rw [h]
  split
  · exact ⟨⟨rfl, rfl, rfl, rfl, rfl⟩, rfl⟩
  · obtain ⟨-, hkeep, -⟩ := enterResponse_frame (sendCommand s tx) tx r
    exact ⟨hkeep, enterResponse_trace _ tx r⟩

/-- Everything a WRITE phase records (R105, R106, R107). -/
theorem writePhase_records {s : State} {tx : Transaction} (hlen : tx.cmd.length ≤ 3) (r : Running) :
    (s.writePhase tx r).trace = s.trace ++ [.write s.devAddr tx.cmd tx.hold s.nextStatus] ∧
      (s.writePhase tx r).wstat = .of s.nextStatus ∧
      (s.writePhase tx r).firstErr = noteWrite s.nextStatus s.firstErr ∧
      (s.writePhase tx r).txFrame = tx.cmd ∧ (s.writePhase tx r).txLen = .of tx.cmd.length ∧
      (s.writePhase tx r).writeAnswers = s.writeAnswers.tail := by
  obtain ⟨⟨hwstat, hbuf, hlength, herr, hans⟩, htrace⟩ := writePhase_keeps_sendCommand s tx r
  have hframe : (sendCommand s tx).txFrame = tx.cmd := State.txFrame_loadTx s tx.cmd hlen
  have hevent : (sendCommand s tx).trace = s.trace ++ [.write s.devAddr (sendCommand s tx).txFrame tx.hold s.nextStatus] := rfl
  refine ⟨by rw [htrace, hevent, hframe], hwstat, herr, ?_, hlength, hans⟩
  rw [← hframe, State.txFrame, hbuf, hlength]
  rfl

/-- Settles O19: a wire command in its WRITE phase is `writePhase` of its row. -/
theorem writePhaseOfEveryCommand : Obligations.WritePhaseOfEveryCommand := by
  intro i s r cmd n d hold hrow hseq hph
  obtain ⟨htrace, hwstat, herr, hframe, hlength, -⟩ :=
    writePhase_records (s := s) (tx := ⟨cmd, n, d⟩) (cmd_length_of_wireRow hrow) r
  refine ⟨_, exec_of_wireRow hrow, ?_⟩
  rw [State.runPhase_write hseq hph, hold_of_wireRow hrow]
  exact ⟨htrace, hwstat, by rw [State.txOk, hwstat, writeOk_eq]; rfl, rfl, by rw [herr, noteWrite_eq], hframe, hlength,
    writePhase_seq s _ r⟩

/-- Settles O20: the status recorded is the first one listed, and the rest stays listed. -/
theorem writeAnswersAreTakenInOrder : Obligations.WriteAnswersAreTakenInOrder := by
  intro i s r cmd n d hold st rest hrow hseq hph hanswers
  obtain ⟨htrace, hwstat, -, -, -, hans⟩ :=
    writePhase_records (s := s) (tx := ⟨cmd, n, d⟩) (cmd_length_of_wireRow hrow) r
  rw [State.nextStatus_cons hanswers] at htrace hwstat
  rw [hanswers] at hans
  refine ⟨_, exec_of_wireRow hrow, ?_⟩
  rw [State.runPhase_write hseq hph, hold_of_wireRow hrow]
  exact ⟨hwstat, hans, htrace⟩

/-! ## The SETTLE phase -/

/-- Settles O22: the delay is recorded before the response is entered, and neither looks at WSTAT. -/
theorem settlePhaseAlwaysWaits : Obligations.SettlePhaseAlwaysWaits := by
  intro i s r cmd n d hold hrow _ hseq hph
  obtain ⟨-, ⟨hwstat, -, -, herr, -⟩, -⟩ := enterResponse_frame (s.record (.delay d)) ⟨cmd, n, d⟩ r
  refine ⟨_, exec_of_wireRow hrow, ?_⟩
  rw [State.runPhase_settle hseq hph]
  exact ⟨settlePhase_trace s _ r, settlePhase_seq s _ r, hwstat, herr⟩

/-! ## The READ phase -/

/-- The codec issues the read exactly under the condition of R109. -/
theorem readIssued_iff (s : State) : (s.txOk || s.params.readOnWriteFail) = true ↔ readIssued s s.wstat.val := by
  simp [State.txOk, writeOk_eq, readIssued]

theorem readPhase_of_returns {s : State} {tx : Transaction} {bs : List Byte} (hissued : readIssued s s.wstat.val)
    (hbytes : s.nextBytes tx.n = some bs) (r : Running) :
    s.readPhase tx r =
      (((s.takeBytes tx.n).loadRx bs).record (.read s.devAddr tx.n bs)).setSeq (.busy { r with txph := .decode }) := by
  rw [State.readPhase, if_pos ((readIssued_iff s).2 hissued), hbytes]

/-- A read that never returns leaves the codec as it is (R111). -/
theorem readPhase_of_hangs {s : State} {tx : Transaction} (hissued : readIssued s s.wstat.val)
    (hbytes : s.nextBytes tx.n = none) (r : Running) : s.readPhase tx r = s := by
  rw [State.readPhase, if_pos ((readIssued_iff s).2 hissued), hbytes]

theorem readPhase_of_skipped {s : State} (hskip : ¬ readIssued s s.wstat.val) (tx : Transaction) (r : Running) :
    s.readPhase tx r =
      ((s.takeDraw tx.n).loadRx (s.drawBytes tx.n)).setSeq (.busy { r with txph := .decode }) := by
  rw [State.readPhase, if_neg (mt (readIssued_iff s).1 hskip)]

/-- Settles O23: the read returns the listed bytes, and `loadRx` puts them into RXBUF. -/
theorem readPhaseTakesTheResponse : Obligations.ReadPhaseTakesTheResponse := by
  intro i s r cmd n d hold bs rest hrow _ hseq hph hissued hanswers hlen
  refine ⟨_, exec_of_wireRow hrow, ?_⟩
  rw [State.runPhase_read hseq hph, readPhase_of_returns hissued (State.nextBytes_exact hanswers hlen)]
  refine ⟨rfl, rxIs_loadRx (s.takeBytes n) bs, rfl, ?_⟩
  simp [State.takeBytes, hanswers]

/-- Settles O24: a skipped read loads a draw of the response's length. -/
theorem skippedReadTakesADraw : Obligations.SkippedReadTakesADraw := by
  intro i s r cmd n d hold hrow _ hseq hph hfailed hparam
  have hskip : ¬ readIssued s s.wstat.val := not_or.2 ⟨hfailed, by simp [hparam]⟩
  refine ⟨_, s.drawBytes n, exec_of_wireRow hrow, s.drawBytes_length n, ?_⟩
  rw [State.runPhase_read hseq hph, readPhase_of_skipped hskip]
  exact ⟨rxIs_loadRx (s.takeDraw n) _, rfl, rfl, rfl⟩

end Sys2Proof.Proofs.BusPhases
end

section
/-! The sequencer of a request (R100, R112 to R118): what the codec fetches, the acceptance step with dispatch's checks, the
default completion, and the read that hangs a running request. -/

namespace Sys2Proof.Proofs.Sequence

open Sys2Proof Sys2Proof.Machine Sys2Proof.Claims Sys2Proof.Proofs.Steps Sys2Proof.Proofs.StateRules
  Sys2Proof.Proofs.Observation Sys2Proof.Proofs.Encoding Sys2Proof.Proofs.BusPhases

/-! ## The commands of R116 -/

/-- The model's transactions send the commands of R116: the two tables agree entry by entry, the data bytes of R76 worked out. -/
theorem opTransaction_cmd (p : Params) (op : OpCode) (arg old : Byte) (u : Fin 4) :
    (opTransaction p op arg old u).map Transaction.cmd = issued op arg old u := by
  unfold issued
  rw [← heaterEnData_eq, ← heaterPwrData_eq]
  obtain ⟨⟨n, hn⟩⟩ := op
  interval_cases n <;> fin_cases u <;> rfl

theorem issued_eq_some_iff {s : State} {r : Running} {cmd : List Byte} :
    issued r.op r.arg s.regBuf.val r.ustep = some cmd ↔ ∃ tx, s.currentTx r = some tx ∧ tx.cmd = cmd := by
  rw [← opTransaction_cmd s.params, Option.map_eq_some_iff]
  rfl

theorem issued_eq_none_iff {s : State} {r : Running} :
    issued r.op r.arg s.regBuf.val r.ustep = none ↔ s.currentTx r = none := by
  rw [← opTransaction_cmd s.params, Option.map_eq_none_iff]
  rfl

/-- Settles O25, by induction on the number of steps: the turn is the bus's, and its READ phase leaves the state. -/
theorem hangingReadNeverEnds : Obligations.HangingReadNeverEnds := by
  intro s r cmd rest k hreset hseq hph hcmd hissued hanswers
  obtain ⟨tx, htx, -⟩ := issued_eq_some_iff.1 hcmd
  have hstay : step s = .next s := by
    rw [step_of_bus hreset hseq (State.turn_of_read htx hph), State.runPhase_read hseq hph,
      readPhase_of_hangs hissued (State.nextBytes_hang hanswers)]
  induction k with
  | zero => rfl
  | succ k ih => exact (run_next hstay k).trans ih

/-! ## Fetching -/

/-- BEGIN's stop as one condition (R115, R131). -/
theorem beginStops_iff {s : State} {r : Running} :
    beginStops s r = true ↔ r.op = 0x1 ∧ r.ustep = 1 ∧ s.firstErr ≠ .none := by
  simp [beginStops, opBegin, and_assoc]

theorem fetchCode_of_bus {s : State} {r : Running} {tx : Transaction} (hseq : s.seq = .busy r) (hturn : s.turn r = .bus tx) :
    s.fetchCode = some (.frame tx.cmd) := by
  simp [State.fetchCode, hseq, hturn]

theorem fetchCode_of_operation {s : State} {r : Running} (hseq : s.seq = .busy r)
    (hturn : s.turn r = .decode ∨ s.turn r = .finish) : s.fetchCode = some (.request (r.op ++ r.arg)) := by
  rcases hturn with hturn | hturn <;> simp only [State.fetchCode, hseq, hturn] <;> rfl

theorem turn_of_beginStops {s : State} {r : Running} {tx : Transaction} (htx : s.currentTx r = some tx) (hph : r.txph = .write)
    (hstops : beginStops s r = true) : s.turn r = .finish := by
  simp [State.turn, htx, hph, hstops]

/-- While a transaction is current, its frame is fetched but in the DECODE phase and where BEGIN stops (R115, R116). -/
theorem fetchCode_of_currentTx {s : State} {r : Running} {tx : Transaction} (hseq : s.seq = .busy r)
    (htx : s.currentTx r = some tx) :
    s.fetchCode =
      if r.txph = .decode then some (.request (r.op ++ r.arg))
      else if r.txph = .write ∧ r.op = 0x1 ∧ r.ustep = 1 ∧ s.firstErr ≠ .none then some (.request (r.op ++ r.arg))
      else some (.frame tx.cmd) := by
  cases hph : r.txph with
  | write =>
    by_cases hstops : beginStops s r = true
    · rw [fetchCode_of_operation hseq (.inr (turn_of_beginStops htx hph hstops))]
      simp [beginStops_iff.1 hstops]
    · rw [fetchCode_of_bus hseq (State.turn_of_write htx hph (by simpa using hstops)), if_neg (by decide),
        if_neg fun h => hstops (beginStops_iff.2 h.2)]
  | settle => exact fetchCode_of_bus hseq (State.turn_of_settle htx hph)
  | read => exact fetchCode_of_bus hseq (State.turn_of_read htx hph)
  | decode => exact fetchCode_of_operation hseq (.inl (State.turn_of_decode htx hph))

/-- Settles O10: the request port while IDLE; while BUSY, whose turn it is decides. -/
theorem fetchFollowsTheSequence : Obligations.FetchFollowsTheSequence := by
  refine ⟨fun s w rest hseq hreqs => ?_, fun s r cmd hseq hcmd => ?_, fun s r hseq hnone => ?_⟩
  · simp [State.fetchCode, hseq, hreqs]
  · obtain ⟨tx, htx, rfl⟩ := issued_eq_some_iff.1 hcmd
    exact fetchCode_of_currentTx hseq htx
  · exact fetchCode_of_operation hseq (.inr (State.turn_of_none (issued_eq_none_iff.1 hnone)))

theorem fetch_of_decode {s : State} {c : Code} {i : Instr} (hreset : s.resetIn = false) (hcode : s.fetchCode = some c)
    (hdecode : decode c = .ok i) : s.fetch = .instr i := by
  simp [State.fetch, hreset, hcode, hdecode]

/-- Settles O9: a fetched instruction is executed, after `takeRequest`. -/
theorem stepRunsTheDecodedInstruction : Obligations.StepRunsTheDecodedInstruction := by
  intro s c i hreset hcode hdecode
  have hstep : step s = exec i s.takeRequest := by rw [step, fetch_of_decode hreset hcode hdecode]
  exact ⟨fun hidle => by rw [hstep, State.takeRequest_idle hidle], fun r hbusy => by rw [hstep, State.takeRequest_busy hbusy]⟩

/-- Settles O11: nothing is fetched. -/
theorem idleWithoutRequestStays : Obligations.IdleWithoutRequestStays := by
  intro s hreset hseq hreqs
  have hfetch : s.fetch = .nothing := by simp [State.fetch, State.fetchCode, hreset, hseq, hreqs]
  rw [step, hfetch]

/-! ## While BUSY -/

theorem reqs_of_sameBusSide {s t : State} (h : sameBusSide s t) : t.reqs = s.reqs := by
  obtain ⟨-, -, -, -, -, -, -, -, hreqs, -⟩ := h
  exact hreqs

theorem runPhase_reqs (s : State) (tx : Transaction) : (s.runPhase tx).reqs = s.reqs := by
  obtain ⟨-, -, -, -, -, -, -, -, -, -, -, -, hreqs, -⟩ := s.runPhase_frame tx
  exact hreqs

theorem opFinish_seq (op : OpCode) (r : Running) (s : State) : (opFinish op r s).seq = .idle := by
  obtain ⟨ok, err, h⟩ := exists_opFinish_eq op r s
  rw [h]
  split <;> rfl

/-- Settles O12, by the kinds of step a BUSY codec makes. -/
theorem noRequestIsTakenWhileBusy : Obligations.NoRequestIsTakenWhileBusy := by
  intro s t r hreset hseq hstep
  cases runStep_of_busy hreset hseq hstep with
  | rest hidle => cases hidle.symm.trans hseq
  | reject => exact ⟨by simp [State.takeRequest_busy hseq], .inl rfl⟩
  | accept hidle => cases hidle.symm.trans hseq
  | @bus r' tx hseq' =>
    cases hseq'.symm.trans hseq
    obtain ⟨⟨ph, hstay⟩, -⟩ := runPhase_busy_frame hseq tx
    exact ⟨runPhase_reqs s tx, .inr ⟨r.ustep, ph, hstay⟩⟩
  | @decode r' hseq' =>
    cases hseq'.symm.trans hseq
    exact ⟨reqs_of_sameBusSide (opDecode_frame r.op r s).1.1, .inr ⟨_, _, rfl⟩⟩
  | @finish r' =>
    exact ⟨reqs_of_sameBusSide (opFinish_sameBusSide r'.op r' s), .inl (opFinish_seq r'.op r' s)⟩

/-! ## Acceptance -/

/-- An IDLE codec leaves a request to dispatch (R118). -/
theorem exec_of_requestRow_idle {i : Instr} {op : OpCode} {arg : Byte} {s : State} (hrow : requestRow i = some (op, arg))
    (hseq : s.seq = .idle) : exec i s = .next (s.dispatch (capability s.params op) op arg) := by
  rw [exec_of_requestRow hrow, State.hostOp_idle hseq]

/-- Settles O15: dispatch is acceptance. -/
theorem idleCodecAcceptsEveryOperation : Obligations.IdleCodecAcceptsEveryOperation := by
  intro i op arg s hrow hseq hcap
  rw [exec_of_requestRow_idle hrow hseq, hcap]
  rfl

/-- Settles O16: dispatch is acceptance and completion in one, so the codec stays IDLE. -/
theorem missingCapabilityCompletesAtOnce : Obligations.MissingCapabilityCompletesAtOnce := by
  intro i op arg s hrow hseq hcap
  refine ⟨_, exec_of_requestRow_idle hrow hseq, ?_⟩
  rw [hcap]
  refine ⟨completedWith_statusComplete false .capDisabled (statusAccept s.status), ?_⟩
  cases s
  cases hseq
  rfl

/-- An offered operation is taken off the port and dispatched. -/
theorem step_of_offeredOperation {s : State} {op : OpCode} {arg : Byte} {rest : List ReqWord} (h : offers s op arg rest)
    (hop : hostInstr op arg ≠ none) :
    step s = .next (State.dispatch { s with reqs := rest } (capability s.params op) op arg) := by
  obtain ⟨hseq, hreset, hreqs⟩ := h
  obtain ⟨i, hi⟩ := Option.ne_none_iff_exists'.1 hop
  rw [step_of_offer hreset hseq hreqs, hi]
  exact exec_of_requestRow_idle (s := { s with reqs := rest }) (requestRow_of_hostInstr hi) hseq

/-- Settles O18: a reserved OP has no operation, and dispatch of an operation goes by its capability. -/
theorem dispatchChecksInOrder : Obligations.DispatchChecksInOrder := by
  intro s op arg rest hoffer
  by_cases hreserved : op = 0 ∨ 9 ≤ op.toNat
  · refine ⟨_, step_of_reservedOp hoffer ((hostInstr_eq_none_iff op arg).2 hreserved), rfl, ?_⟩
    rw [if_pos hreserved]
    exact ⟨hoffer.1, completedWith_statusComplete false .illegalOp s.status⟩
  · refine ⟨_, step_of_offeredOperation hoffer (mt (hostInstr_eq_none_iff op arg).1 hreserved), dispatch_trace _ _ _ _, ?_⟩
    rw [if_neg hreserved]
    cases hcap : capability s.params op with
    | false => exact ⟨rfl, completedWith_statusComplete false .capDisabled (statusAccept s.status)⟩
    | true => rfl

/-! ## The default completion -/

/-- Past the end of its sequence an operation completes (R115). -/
theorem turn_of_opLength_le {s : State} {r : Running} (h : opLength r.op ≤ r.ustep.val) : s.turn r = .finish := by
  refine State.turn_of_none (Option.eq_none_iff_forall_ne_some.2 fun tx htx => ?_)
  have hlt : r.ustep.val < opLength r.op := opTransaction_lt_opLength htx
  omega

/-- How many transactions each operation but BEGIN and RESET has (R116). -/
theorem opLength_of_requestRow {i : Instr} {op : OpCode} {arg : Byte} (hrow : requestRow i = some (op, arg)) (h1 : op ≠ 0x1) :
    opLength op = if op = 0x6 then 3 else if op = 0x7 ∨ op = 0x8 then 2 else 1 := by
  cases i <;> cases hrow
  case reqBegin => exact absurd rfl h1
  all_goals rfl

theorem opFinish_default {op : OpCode} (h1 : op ≠ 0x1) (h5 : op ≠ 0x5) (r : Running) (s : State) :
    opFinish op r s = { s.completeDefault with devinfoDone := s.devinfoDone || decide (op = 0x6) } := by
  unfold opFinish
  split
  case h_1 hop => exact absurd (opCode_of_toNat hop) h1
  case h_2 hop => exact absurd (opCode_of_toNat hop) h5
  case h_3 hop =>
    cases opCode_of_toNat hop
    simp [finishReadDevinfo, State.setDevinfoDone]
  case h_4 hop =>
    have h6 : decide (op = 0x6) = false := decide_eq_false fun h => hop (h ▸ rfl)
    rw [h6, Bool.or_false]
    rfl

/-- Settles O32: the sequence is at its end, so the operation completes, by `completeDefault`. -/
theorem defaultCompletion : Obligations.DefaultCompletion := by
  intro i op arg ustep s hrow h1 h5 hustep hseq
  have hturn : s.turn ⟨op, arg, ustep, .write⟩ = .finish :=
    turn_of_opLength_le (by rw [opLength_of_requestRow hrow h1, hustep])
  refine ⟨_, (exec_of_requestRow hrow s).trans (congrArg Host.Outcome.next (State.hostOp_finish hseq hturn _ _ _)), ?_⟩
  rw [opFinish_default h1 h5]
  exact ⟨completedWith_statusComplete _ s.firstErr s.status, rfl⟩

end Sys2Proof.Proofs.Sequence
end

section
/-! Completion of every running request (R117, R292): the steps that are left go down with every step of a BUSY codec whose reads
do not hang. -/

namespace Sys2Proof.Proofs.Completion

open Sys2Proof Sys2Proof.Machine Sys2Proof.Claims Sys2Proof.Proofs.Steps Sys2Proof.Proofs.StateRules
  Sys2Proof.Proofs.BusPhases Sys2Proof.Proofs.Sequence

/-! ## The steps that are left -/

/-- How many steps a transaction takes from a phase on, its decode step included (R104). -/
def phasesLeft (tx : Transaction) : TxPhase → Nat
  | .write => 2 + (if 0 < tx.d then 1 else 0) + (if 0 < tx.n then 1 else 0)
  | .settle => 2 + (if 0 < tx.n then 1 else 0)
  | .read => 2
  | .decode => 1

/-- How many steps a running request takes at most until it completes: the phases of the current transaction, three for each
transaction after it, and the completion. -/
def stepsLeft (s : State) (r : Running) : Nat :=
  match s.currentTx r with
  | none => 1
  | some tx => phasesLeft tx r.txph + 3 * (opLength r.op - 1 - r.ustep.val) + 1

theorem stepsLeft_of_none {s : State} {r : Running} (h : s.currentTx r = none) : stepsLeft s r = 1 := by
  rw [stepsLeft, h]

theorem stepsLeft_of_some {s : State} {r : Running} {tx : Transaction} (h : s.currentTx r = some tx) :
    stepsLeft s r = phasesLeft tx r.txph + 3 * (opLength r.op - 1 - r.ustep.val) + 1 := by
  rw [stepsLeft, h]

theorem stepsLeft_pos (s : State) (r : Running) : 0 < stepsLeft s r := by
  unfold stepsLeft
  split <;> omega

theorem phasesLeft_le_write (tx : Transaction) (ph : TxPhase) : phasesLeft tx ph ≤ phasesLeft tx .write := by
  cases ph <;> simp only [phasesLeft] <;> omega

theorem phasesLeft_write_le (tx : Transaction) : phasesLeft tx .write ≤ 4 := by
  simp only [phasesLeft]
  split_ifs <;> omega

/-- READ_RH and READ_T alone have a transaction that takes four steps, and it is their only one (R72, R116). -/
theorem phasesLeft_opTransaction {p : Params} {op : OpCode} {arg old : Byte} {u : Fin 4} {tx : Transaction}
    (h : opTransaction p op arg old u = some tx) : phasesLeft tx .write ≤ 3 ∨ opLength op = 1 := by
  unfold opTransaction at h
  split at h <;> cases h
  case h_3 hop _ | h_4 hop _ => exact .inr (by rw [opCode_of_toNat hop]; rfl)
  all_goals exact .inl (Nat.le_of_ble_eq_true rfl)

theorem opLength_le (op : OpCode) : opLength op ≤ 3 := by
  revert op
  decide

/-- Three transactions of three steps and a completion are the longest request (R116). -/
theorem stepsLeft_le (s : State) (r : Running) : stepsLeft s r ≤ 10 := by
  cases htx : s.currentTx r with
  | none => rw [stepsLeft_of_none htx]; omega
  | some tx =>
    rw [stepsLeft_of_some htx]
    have hfour := phasesLeft_write_le tx
    have hwrite := phasesLeft_le_write tx r.txph
    have hlength := opLength_le r.op
    have hshort := phasesLeft_opTransaction htx
    omega

/-! ## A step goes down -/

theorem exists_nextBytes_of_noHang {s : State} (h : s.noHang = true) (n : Nat) : ∃ bs, s.nextBytes n = some bs := by
  unfold State.nextBytes
  split
  case h_1 hans => simp [State.noHang, hans] at h
  all_goals exact ⟨_, rfl⟩

theorem noHang_tail {s t : State} (h : s.noHang = true) (ht : t.readAnswers = s.readAnswers.tail) : t.noHang = true := by
  unfold State.noHang at h ⊢
  rw [List.all_eq_true] at h ⊢
  exact fun a ha => h a (List.mem_of_mem_tail (ht ▸ ha))

/-- A bus phase goes on to a later phase, and a READ phase takes at most its own answer. -/
theorem runPhase_progress {s : State} {r : Running} (hseq : s.seq = .busy r) (hph : r.txph ≠ .decode) (hfree : s.noHang = true)
    (tx : Transaction) :
    (∃ ph, (s.runPhase tx).seq = .busy { r with txph := ph } ∧ phasesLeft tx ph < phasesLeft tx r.txph) ∧
      (s.runPhase tx).noHang = true := by
  obtain ⟨-, -, hans, -⟩ := runPhase_busy_frame hseq tx
  have hkeep : r.txph ≠ .read → (s.runPhase tx).noHang = true := fun h => by rw [State.noHang, hans h]; exact hfree
  cases hcase : r.txph with
  | write =>
    refine ⟨⟨phaseAfterWrite tx.n tx.d, ?_, ?_⟩, hkeep (by simp [hcase])⟩
    · rw [State.runPhase_write hseq hcase, writePhase_seq]
    · unfold phaseAfterWrite
      split_ifs <;> simp [phasesLeft, *]
  | settle =>
    refine ⟨⟨if 0 < tx.n then .read else .decode, ?_, ?_⟩, hkeep (by simp [hcase])⟩
    · rw [State.runPhase_settle hseq hcase, settlePhase_seq]
    · split_ifs <;> simp [phasesLeft, *]
  | read =>
    rw [State.runPhase_read hseq hcase]
    by_cases hissued : readIssued s s.wstat.val
    · obtain ⟨bs, hbytes⟩ := exists_nextBytes_of_noHang hfree tx.n
      rw [readPhase_of_returns hissued hbytes]
      exact ⟨⟨.decode, rfl, by simp [phasesLeft]⟩, noHang_tail hfree rfl⟩
    · rw [readPhase_of_skipped hissued]
      exact ⟨⟨.decode, rfl, by simp [phasesLeft]⟩, hfree⟩
  | decode => exact absurd hcase hph

/-- A step in a bus phase leaves fewer steps of the same transaction. -/
theorem stepsLeft_runPhase {s : State} {r : Running} {tx : Transaction} (htx : s.currentTx r = some tx) {ph : TxPhase}
    (hlt : phasesLeft tx ph < phasesLeft tx r.txph) : stepsLeft (s.runPhase tx) { r with txph := ph } < stepsLeft s r := by
  obtain ⟨hparams, -, -, -, -, -, -, -, -, -, hreg, -⟩ := s.runPhase_frame tx
  have hsame : (s.runPhase tx).currentTx { r with txph := ph } = some tx := by
    rw [← htx, State.currentTx, hparams, hreg]
    rfl
  rw [stepsLeft_of_some hsame, stepsLeft_of_some htx]
  dsimp only
  omega

theorem ustepNext_val {u : Fin 4} (h : u.val < 3) : (ustepNext u).val = u.val + 1 := by
  revert u
  decide

/-- A decode step leaves the transactions after the current one. -/
theorem stepsLeft_of_decode {s : State} {r : Running} (hturn : s.turn r = .decode) (t : State) :
    stepsLeft t ⟨r.op, r.arg, ustepNext r.ustep, .write⟩ < stepsLeft s r := by
  obtain ⟨tx, htx, hph⟩ := State.currentTx_of_turn_decode hturn
  have hplace : r.ustep.val < opLength r.op := opTransaction_lt_opLength htx
  have hnext : (ustepNext r.ustep).val = r.ustep.val + 1 := ustepNext_val (hplace.trans_le (opLength_le r.op))
  rw [stepsLeft_of_some htx, hph, phasesLeft]
  cases htx' : t.currentTx ⟨r.op, r.arg, ustepNext r.ustep, .write⟩ with
  | none =>
    rw [stepsLeft_of_none htx']
    omega
  | some tx' =>
    have hplace' : (ustepNext r.ustep).val < opLength r.op := opTransaction_lt_opLength htx'
    rw [stepsLeft_of_some htx']
    have hshort : phasesLeft tx' .write ≤ 3 ∨ opLength r.op = 1 := phasesLeft_opTransaction htx'
    dsimp only
    omega

/-- A step of a BUSY codec whose reads do not hang completes the request, or leaves fewer steps and no hang. -/
theorem exists_step_closer {s : State} {r : Running} (hreset : s.resetIn = false) (hfree : s.noHang = true)
    (hseq : s.seq = .busy r) :
    ∃ t, step s = .next t ∧
      (t.seq = .idle ∨
        t.resetIn = false ∧ t.noHang = true ∧ ∃ r', t.seq = .busy r' ∧ stepsLeft t r' < stepsLeft s r) := by
  rcases step_busy_cases hreset hseq with ⟨tx, hturn, htx, hstep⟩ | ⟨i, hturn, hi, hstep⟩ | ⟨-, hstep⟩
  · have hph : r.txph ≠ .decode := fun h => by rw [State.turn_of_decode htx h] at hturn; cases hturn
    obtain ⟨⟨ph, hnext, hlt⟩, hfree'⟩ := runPhase_progress hseq hph hfree tx
    obtain ⟨-, -, -, -, -, -, -, -, -, -, -, -, -, hreset'⟩ := s.runPhase_frame tx
    exact ⟨_, hstep, .inr ⟨hreset'.trans hreset, hfree', _, hnext, stepsLeft_runPhase htx hlt⟩⟩
  · rw [exec_of_requestRow (requestRow_of_hostInstr hi)] at hstep
    rcases hturn with hturn | hturn
    · rw [State.hostOp_decode hseq hturn] at hstep
      obtain ⟨⟨⟨-, -, -, -, -, -, -, -, -, hreset', -, hans, -⟩, -⟩, -⟩ := opDecode_frame r.op r s
      have hfree' : (opDecode r.op r s).noHang = true := by rw [State.noHang, hans]; exact hfree
      exact ⟨_, hstep, .inr ⟨hreset'.trans hreset, hfree', _, rfl, stepsLeft_of_decode hturn _⟩⟩
    · rw [State.hostOp_finish hseq hturn] at hstep
      exact ⟨_, hstep, .inl (opFinish_seq r.op r s)⟩
  · exact ⟨_, hstep, .inl rfl⟩

/-! ## Whole runs -/

/-- By induction on a bound of the steps that are left. -/
theorem exists_runsTo_idle {n : Nat} {s : State} {r : Running} (hreset : s.resetIn = false) (hfree : s.noHang = true)
    (hseq : s.seq = .busy r) (hn : stepsLeft s r ≤ n) : ∃ k t, k ≤ n ∧ runsTo k s t ∧ t.seq = .idle := by
  induction n generalizing s r with
  | zero => exact absurd hn (Nat.not_le_of_lt (stepsLeft_pos s r))
  | succ n ih =>
    obtain ⟨t, hstep, hidle | ⟨hreset', hfree', r', hseq', hlt⟩⟩ := exists_step_closer hreset hfree hseq
    · exact ⟨1, t, by omega, run_next hstep 0, hidle⟩
    · obtain ⟨k, u, hk, hrun, hend⟩ := ih hreset' hfree' hseq' (by omega)
      exact ⟨k + 1, u, by omega, (run_next hstep k).trans hrun, hend⟩

/-- Settles O50: at most ten steps are left in any running request. The invariant is not needed: a reserved OP is answered, and
past the end of a sequence the request completes. -/
theorem everyRequestCompletes : Obligations.EveryRequestCompletes := by
  intro s _ hfree hreset
  cases hseq : s.seq with
  | idle => exact ⟨0, s, Nat.zero_le 10, rfl, hseq⟩
  | busy r => exact exists_runsTo_idle hreset hfree hseq (stepsLeft_le s r)

end Sys2Proof.Proofs.Completion
end

section
/-! Runs of the machine over whole transactions (R104, R114): the step of each phase, runs one after another, and a transaction
from its WRITE phase to its DECODE phase, with a settle delay or with a held read. -/

namespace Sys2Proof.Proofs.Runs

open Sys2Proof Sys2Proof.Machine Sys2Proof.Claims Sys2Proof.Proofs.Steps Sys2Proof.Proofs.BusPhases
  Sys2Proof.Proofs.Sequence

/-! ## An operation's own steps -/

/-- In the DECODE phase of a current transaction a request runs its decode step, and the next transaction becomes current
(R115). -/
theorem exec_of_decodePhase {i : Instr} {r : Running} {s : State} {tx : Transaction} (hrow : requestRow i = some (r.op, r.arg))
    (htx : s.currentTx r = some tx) (hph : r.txph = .decode) (hseq : s.seq = .busy r) :
    exec i s = .next ((opDecode r.op r s).advance r) := by
  rw [exec_of_requestRow hrow, State.hostOp_decode hseq (State.turn_of_decode htx hph)]

/-- At its last turn a request completes (R112). -/
theorem exec_of_turn_finish {i : Instr} {r : Running} {s : State} (hrow : requestRow i = some (r.op, r.arg))
    (hseq : s.seq = .busy r) (hturn : s.turn r = .finish) : exec i s = .next (opFinish r.op r s) := by
  rw [exec_of_requestRow hrow, State.hostOp_finish hseq hturn]

/-! ## The step of each phase -/

/-- An offered operation whose capability is there is accepted (R100). -/
theorem step_of_acceptedOperation {s : State} {op : OpCode} {arg : Byte} {rest : List ReqWord} (h : offers s op arg rest)
    (hop : hostInstr op arg ≠ none) (hcap : capability s.params op = true) :
    step s = .next (State.accept { s with reqs := rest } op arg) := by
  rw [step_of_offeredOperation h hop, hcap]
  rfl

/-- A step in the DECODE phase of a current transaction is the operation's decode step. -/
theorem step_of_decodePhase {s : State} {r : Running} {tx : Transaction} (hreset : s.resetIn = false)
    (hop : hostInstr r.op r.arg ≠ none) (hseq : s.seq = .busy r) (htx : s.currentTx r = some tx) (hph : r.txph = .decode) :
    step s = .next ((opDecode r.op r s).advance r) := by
  obtain ⟨i, hi⟩ := Option.ne_none_iff_exists'.1 hop
  rw [step_of_operation hreset hseq (.inl (State.turn_of_decode htx hph)) hi,
    exec_of_decodePhase (requestRow_of_hostInstr hi) htx hph hseq]

/-- A step in the WRITE phase at the bus's turn. -/
theorem step_of_writePhase {s : State} {r : Running} {tx : Transaction} (hreset : s.resetIn = false) (hseq : s.seq = .busy r)
    (hph : r.txph = .write) (hturn : s.turn r = .bus tx) : step s = .next (s.writePhase tx r) := by
  rw [step_of_bus hreset hseq hturn, State.runPhase_write hseq hph]

theorem step_of_settlePhase {s : State} {r : Running} {tx : Transaction} (hreset : s.resetIn = false) (hseq : s.seq = .busy r)
    (hph : r.txph = .settle) (htx : s.currentTx r = some tx) : step s = .next (s.settlePhase tx r) := by
  rw [step_of_bus hreset hseq (State.turn_of_settle htx hph), State.runPhase_settle hseq hph]

theorem step_of_readPhase {s : State} {r : Running} {tx : Transaction} (hreset : s.resetIn = false) (hseq : s.seq = .busy r)
    (hph : r.txph = .read) (htx : s.currentTx r = some tx) : step s = .next (s.readPhase tx r) := by
  rw [step_of_bus hreset hseq (State.turn_of_read htx hph), State.runPhase_read hseq hph]

/-! ## Where a phase leads -/

/-- A write with a settle delay goes on to it (R104). -/
theorem writePhase_of_delay {tx : Transaction} (hd : 0 < tx.d) (s : State) (r : Running) :
    s.writePhase tx r = (sendCommand s tx).setSeq (.busy { r with txph := .settle }) :=
  if_pos hd

/-- A held write goes on to its read (R104, R106). -/
theorem writePhase_of_hold {tx : Transaction} (hd : tx.d = 0) (hn : 0 < tx.n) (s : State) (r : Running) :
    s.writePhase tx r = (sendCommand s tx).setSeq (.busy { r with txph := .read }) :=
  (if_neg (Nat.not_lt.2 hd.le)).trans (if_pos hn)

/-- A settle delay without a response goes on to the DECODE phase (R104). -/
theorem settlePhase_of_noResponse {tx : Transaction} (hn : tx.n = 0) (s : State) (r : Running) :
    s.settlePhase tx r = ((s.record (.delay tx.d)).loadRx []).setSeq (.busy { r with txph := .decode }) :=
  if_neg (Nat.not_lt.2 hn.le)

/-- In any phase, a state with the same parameters and the same REGBUF has the same current transaction. -/
theorem currentTx_congr {s t : State} {r : Running} {tx : Transaction} (htx : s.currentTx r = some tx)
    (hparams : t.params = s.params) (hreg : t.regBuf = s.regBuf) (ph : TxPhase) :
    t.currentTx { r with txph := ph } = some tx := by
  rw [← htx, State.currentTx, State.currentTx, hparams, hreg]

/-! ## What the phases after a write look at -/

@[simp] theorem sendCommand_params (s : State) (tx : Transaction) : (sendCommand s tx).params = s.params := by
  simp [sendCommand]

@[simp] theorem sendCommand_regBuf (s : State) (tx : Transaction) : (sendCommand s tx).regBuf = s.regBuf := by
  simp [sendCommand]

@[simp] theorem sendCommand_resetIn (s : State) (tx : Transaction) : (sendCommand s tx).resetIn = s.resetIn := by
  simp [sendCommand]

@[simp] theorem sendCommand_readAnswers (s : State) (tx : Transaction) : (sendCommand s tx).readAnswers = s.readAnswers := by
  simp [sendCommand]

@[simp] theorem sendCommand_devAddr (s : State) (tx : Transaction) : (sendCommand s tx).devAddr = s.devAddr := by
  simp [sendCommand]

@[simp] theorem sendCommand_wstat (s : State) (tx : Transaction) : (sendCommand s tx).wstat = .of s.nextStatus := by
  simp [sendCommand]

/-! ## Runs -/

theorem runsTo_one {s t : State} (h : step s = .next t) : runsTo 1 s t := run_next h 0

/-- One run after another. -/
theorem runsTo_add {j k : Nat} {s t u : State} (h : runsTo j s t) (h' : runsTo k t u) : runsTo (j + k) s u := by
  induction j generalizing s with
  | zero =>
    cases h
    rwa [Nat.zero_add]
  | succ j ih =>
    obtain ⟨v, hstep⟩ : ∃ v, step s = .next v := by
      cases hs : step s with
      | next v => exact ⟨v, rfl⟩
      | fault => simp [runsTo, Host.Core.run, core, hs] at h
      | refused => simp [runsTo, Host.Core.run, core, hs] at h
    rw [Nat.succ_add_eq_add_succ]
    exact (run_next hstep (j + k)).trans (ih ((run_next hstep j).symm.trans h))

/-- The DECODE phase of a command with a settle delay and without response: sent, waited for, nothing received (R104, R108). -/
def afterSettledCommand (s : State) (tx : Transaction) (r : Running) : State :=
  (((sendCommand s tx).record (.delay tx.d)).loadRx []).setSeq (.busy { r with txph := .decode })

theorem afterSettledCommand_resetIn (s : State) (tx : Transaction) (r : Running) :
    (afterSettledCommand s tx r).resetIn = s.resetIn := by
  simp [afterSettledCommand]

/-- A command with a settle delay and without response, from its WRITE phase to its DECODE phase. -/
theorem runsTo_afterSettledCommand {s : State} {r : Running} {tx : Transaction} (hreset : s.resetIn = false)
    (hseq : s.seq = .busy r) (hph : r.txph = .write) (hturn : s.turn r = .bus tx) (hd : 0 < tx.d) (hn : tx.n = 0) :
    runsTo 2 s (afterSettledCommand s tx r) := by
  have hwrite := step_of_writePhase hreset hseq hph hturn
  rw [writePhase_of_delay hd] at hwrite
  have htx : ((sendCommand s tx).setSeq (.busy { r with txph := .settle })).currentTx { r with txph := .settle } = some tx :=
    currentTx_congr (State.currentTx_of_turn_bus hturn) (by simp) (by simp) .settle
  have hsettle := step_of_settlePhase (by simpa using hreset) (State.setSeq_seq _ _) rfl htx
  rw [settlePhase_of_noResponse hn] at hsettle
  exact runsTo_add (runsTo_one hwrite) (runsTo_one hsettle)

/-- The DECODE phase of a held command whose read returned `bs` (R106, R109). -/
def afterHeldRead (s : State) (tx : Transaction) (bs : List Byte) (r : Running) : State :=
  ((((sendCommand s tx).takeBytes tx.n).loadRx bs).record (.read s.devAddr tx.n bs)).setSeq (.busy { r with txph := .decode })

theorem afterHeldRead_resetIn (s : State) (tx : Transaction) (bs : List Byte) (r : Running) :
    (afterHeldRead s tx bs r).resetIn = s.resetIn := by
  simp [afterHeldRead]

/-- A held command with a listed answer, from its WRITE phase to its DECODE phase. -/
theorem runsTo_afterHeldRead {s : State} {r : Running} {tx : Transaction} {bs : List Byte} {rs : List ReadAnswer}
    (hreset : s.resetIn = false) (hseq : s.seq = .busy r) (hph : r.txph = .write) (hturn : s.turn r = .bus tx)
    (hd : tx.d = 0) (hn : 0 < tx.n) (hissued : readIssued s s.nextStatus) (hans : s.readAnswers = .bytes bs :: rs)
    (hlen : bs.length = tx.n) : runsTo 2 s (afterHeldRead s tx bs r) := by
  have hwrite := step_of_writePhase hreset hseq hph hturn
  rw [writePhase_of_hold hd hn] at hwrite
  have htx : ((sendCommand s tx).setSeq (.busy { r with txph := .read })).currentTx { r with txph := .read } = some tx :=
    currentTx_congr (State.currentTx_of_turn_bus hturn) (by simp) (by simp) .read
  have hread := step_of_readPhase (by simpa using hreset) (State.setSeq_seq _ _) rfl htx
  rw [readPhase_of_returns (bs := bs) (by simpa [readIssued, Reg.of] using hissued)
    (State.nextBytes_exact (rest := rs) (by simpa using hans) hlen), State.setSeq_devAddr, sendCommand_devAddr] at hread
  exact runsTo_add (runsTo_one hwrite) (runsTo_one hread)

end Sys2Proof.Proofs.Runs
end

section
/-! RESET and BEGIN (spec/41_init_reset.md): the decode steps that take a device register into REGBUF, the two operations'
completions, and both operations from acceptance to completion. -/

namespace Sys2Proof.Proofs.InitReset

open Sys2Proof Sys2Proof.Machine Sys2Proof.Claims Sys2Proof.Proofs.Steps Sys2Proof.Proofs.StateRules
  Sys2Proof.Proofs.Encoding Sys2Proof.Proofs.BusPhases Sys2Proof.Proofs.Sequence Sys2Proof.Proofs.Runs

/-! ## The decode steps -/

/-- Settles O31: at each of the seven places a transaction is current, in its DECODE phase. -/
theorem registerReadsGoToRegbuf : Obligations.RegisterReadsGoToRegbuf := fun arg s =>
  ⟨exec_of_decodePhase (s := s) (r := ⟨0x1, arg, 0, .decode⟩) rfl rfl rfl,
    exec_of_decodePhase (s := s) (r := ⟨0x1, arg, 1, .decode⟩) rfl rfl rfl,
    exec_of_decodePhase (s := s) (r := ⟨0x5, arg, 0, .decode⟩) rfl rfl rfl,
    exec_of_decodePhase (s := s) (r := ⟨0x7, arg, 0, .decode⟩) rfl rfl rfl,
    exec_of_decodePhase (s := s) (r := ⟨0x7, arg, 1, .decode⟩) rfl rfl rfl,
    exec_of_decodePhase (s := s) (r := ⟨0x8, arg, 0, .decode⟩) rfl rfl rfl,
    exec_of_decodePhase (s := s) (r := ⟨0x8, arg, 1, .decode⟩) rfl rfl rfl⟩

/-! ## Completion -/

/-- Settles O33: RESET is past its one transaction, and its completion looks at WSTAT. -/
theorem resetCompletion : Obligations.ResetCompletion := by
  intro arg s hseq
  refine ⟨_, exec_of_turn_finish rfl hseq (turn_of_opLength_le (Nat.le_refl 1)), ?_, rfl⟩
  rw [← writeOk_eq]
  exact completedWith_statusComplete s.txOk s.firstErr s.status

/-- The byte makes BEGIN fail when it is not 0x3A, but with CHECK_READ only when its read's write succeeded (R131, R132). -/
theorem beginFatal_iff (variant : BeginVariant) (wstat regbuf : Byte) :
    beginFatal variant (writeOk wstat) regbuf = true ↔ regbuf ≠ 0x3A ∧ (variant = .ignoreRead ∨ wstat = 0) := by
  cases variant <;> simp [beginFatal, writeOk_eq, Config.cfgDefault, and_comm]

/-- BEGIN completes without its second transaction when its first write failed (R131). -/
theorem finishBegin_of_beginStops {s : State} {r : Running} (h : beginStops s r = true) :
    finishBegin r s = s.complete false .busWrite := by
  rw [finishBegin, if_pos h]

/-- After both transactions BEGIN completes by the byte in REGBUF (R131, R255). -/
theorem finishBegin_of_ustep_ne_one {s : State} {r : Running} (h : r.ustep ≠ 1) :
    finishBegin r s =
      if s.regBuf.val ≠ 0x3A ∧ (s.params.beginVariant = .ignoreRead ∨ s.wstat.val = 0) then
        s.complete false (if s.firstErr = .none then .configMismatch else s.firstErr)
      else s.complete true s.firstErr := by
  have hstops : ¬ beginStops s r = true := fun hs => by
    obtain ⟨-, hone, -⟩ := beginStops_iff.1 hs
    exact h hone
  simp only [finishBegin, if_neg hstops, State.txOk, beginFatal_iff]

/-- Settles O34: BEGIN's turn is its completion at both places, and the comparison decides at the second. -/
theorem beginCompletion : Obligations.BeginCompletion := by
  intro arg s
  constructor
  · intro hseq herr
    have hstops : beginStops s ⟨0x1, arg, 1, .write⟩ = true := beginStops_iff.2 ⟨rfl, rfl, herr⟩
    exact ⟨_, (exec_of_turn_finish rfl hseq (turn_of_beginStops rfl rfl hstops)).trans
      (congrArg Host.Outcome.next (finishBegin_of_beginStops hstops)),
      completedWith_statusComplete false .busWrite s.status, rfl⟩
  · intro hseq
    refine ⟨_, (exec_of_turn_finish rfl hseq (turn_of_opLength_le (Nat.le_refl 2))).trans
      (congrArg Host.Outcome.next (finishBegin_of_ustep_ne_one (r := ⟨0x1, arg, 2, .write⟩) (by simp))), ?_⟩
    split
    case isTrue hfatal =>
      obtain ⟨hne, hvar⟩ := hfatal
      refine ⟨rfl, fun heq => absurd heq hne, fun _ hcheck hfail => ?_, fun _ _ => ?_⟩
      · exact absurd hvar (by simpa [hcheck] using hfail)
      · have h := completedWith_statusComplete false (if s.firstErr = .none then .configMismatch else s.firstErr) s.status
        rwa [apply_ite ErrCode.code] at h
    case isFalse hok =>
      have h := completedWith_statusComplete true s.firstErr s.status
      exact ⟨rfl, fun _ => h, fun _ _ _ => h, fun hne hvar => absurd ⟨hne, hvar⟩ hok⟩

/-! ## The reset command -/

/-- The state after DEV_RESET, the first transaction of RESET and of BEGIN, when `s` offered the request OP:ARG before `rest`:
accepted, FE sent, 50 ms waited, nothing decoded (R130, R131). -/
def afterDevReset (s : State) (op : OpCode) (arg : Byte) (rest : List ReqWord) : State :=
  (afterSettledCommand (State.accept { s with reqs := rest } op arg) txDevReset ⟨op, arg, 0, .write⟩).advance
    ⟨op, arg, 0, .decode⟩

/-- Acceptance, the WRITE and the SETTLE phase, and a decode step that writes nothing. -/
theorem runsTo_afterDevReset {s : State} {op : OpCode} {arg : Byte} {rest : List ReqWord} (hop : op = 0x1 ∨ op = 0x5)
    (hoffer : offers s op arg rest) : runsTo 4 s (afterDevReset s op arg rest) := by
  obtain ⟨-, hreset, -⟩ := id hoffer
  have hinstr : hostInstr op arg ≠ none := by rcases hop with rfl | rfl <;> exact Option.some_ne_none _
  have hcap : capability s.params op = true := by rcases hop with rfl | rfl <;> rfl
  have htx (u : State) (ph : TxPhase) : u.currentTx ⟨op, arg, 0, ph⟩ = some txDevReset := by
    rcases hop with rfl | rfl <;> rfl
  have hnothing (u : State) : opDecode op ⟨op, arg, 0, .decode⟩ u = u := by rcases hop with rfl | rfl <;> rfl
  have haccept := step_of_acceptedOperation hoffer hinstr hcap
  have hcommand := runsTo_afterSettledCommand (r := ⟨op, arg, 0, .write⟩) (tx := txDevReset)
    (s := State.accept { s with reqs := rest } op arg) hreset (State.accept_seq _ op arg) rfl
      (State.turn_of_write (htx _ _) rfl (by simp [beginStops])) (by decide) rfl
  have hdecode := step_of_decodePhase (r := ⟨op, arg, 0, .decode⟩)
    (s := afterSettledCommand (State.accept { s with reqs := rest } op arg) txDevReset ⟨op, arg, 0, .write⟩)
    ((afterSettledCommand_resetIn _ _ _).trans hreset) hinstr (State.setSeq_seq _ _) (htx _ .decode) rfl
  rw [hnothing] at hdecode
  exact runsTo_add (runsTo_one haccept) (runsTo_add hcommand (runsTo_one hdecode))

/-- What DEV_RESET leaves behind when its write is answered with `st`. -/
theorem afterDevReset_records {s : State} {st : Byte} {ws : List Byte} (hans : s.writeAnswers = st :: ws) (op : OpCode)
    (arg : Byte) (rest : List ReqWord) :
    (afterDevReset s op arg rest).trace = s.trace ++ [.write s.devAddr [0xFE] false st, .delay 50] ∧
      (afterDevReset s op arg rest).wstat = .of st ∧
      (afterDevReset s op arg rest).firstErr = noteWrite st .none ∧
      (afterDevReset s op arg rest).writeAnswers = ws := by
  obtain rfl : s.nextStatus = st := State.nextStatus_cons hans
  obtain rfl : s.writeAnswers.tail = ws := by rw [hans, List.tail_cons]
  exact ⟨List.append_assoc s.trace [_] [_], rfl, rfl, rfl⟩

/-- DEV_RESET takes its request off the port, and keeps every result (R130). -/
theorem afterDevReset_frame (s : State) (op : OpCode) (arg : Byte) (rest : List ReqWord) :
    let t := afterDevReset s op arg rest
    t.params = s.params ∧ t.devAddr = s.devAddr ∧ t.reqs = rest ∧ t.resetIn = s.resetIn ∧ t.readAnswers = s.readAnswers ∧
      t.valid = s.valid ∧ t.raw = s.raw ∧ t.result = s.result ∧ t.regBuf = s.regBuf ∧ t.serial = s.serial ∧
      t.fwRev = s.fwRev := by
  simp [afterDevReset, afterSettledCommand, sendCommand]

/-! ## Whole operations -/

/-- FIRSTERR after the first write that can fail (R107). -/
theorem noteWrite_none (st : Byte) : noteWrite st .none = if st = 0 then .none else .busWrite := by
  rw [noteWrite_eq]
  by_cases hst : st = 0
  · rw [if_pos hst, if_neg fun h => h.1 hst]
  · rw [if_neg hst, if_pos ⟨hst, rfl⟩]

theorem noteWrite_none_code (st : Byte) : (noteWrite st .none).code = writeError st := by
  rw [noteWrite_none, writeError]
  split <;> rfl

/-- CONFIG_MISMATCH unless the write answered with `st` failed first (R255). -/
theorem mismatch_code (st : Byte) :
    (if noteWrite st .none = .none then 2 else (noteWrite st .none).code) = if st = 0 then (2 : BitVec 3) else 1 := by
  rw [noteWrite_none]
  by_cases hst : st = 0
  · rw [if_pos hst, if_pos hst]
    rfl
  · rw [if_neg hst, if_neg hst]
    rfl

/-- Settles O51: DEV_RESET, then RESET's completion. -/
theorem resetRunsToCompletion : Obligations.ResetRunsToCompletion := by
  intro s arg st rest ws hoffer hans
  obtain ⟨-, hreset, -⟩ := id hoffer
  obtain ⟨htrace, hwstat, herr, -⟩ := afterDevReset_records hans 0x5 arg rest
  obtain ⟨-, -, hreqs, hkept, -, hresults⟩ := afterDevReset_frame s 0x5 arg rest
  obtain ⟨t, hexec, hstatus, ht⟩ := resetCompletion arg (afterDevReset s 0x5 arg rest) rfl
  have hfinish : step (afterDevReset s 0x5 arg rest) = .next t := by
    rw [step_of_operation (r := ⟨0x5, arg, 1, .write⟩) (hkept.trans hreset) rfl
      (.inr (turn_of_opLength_le (Nat.le_refl 1))) rfl, hexec]
  rw [hwstat, herr, noteWrite_none_code] at hstatus
  refine ⟨t, runsTo_add (runsTo_afterDevReset (.inr rfl) hoffer) (runsTo_one hfinish), ?_⟩
  rw [ht]
  exact ⟨rfl, hreqs, htrace, hwstat, hstatus, rxIs_loadRx s [], rfl, rfl, hresults⟩

/-- BEGIN when its reset write fails: DEV_RESET, then the completion with BUS_WRITE (R131). -/
theorem beginRuns_of_failedReset {s : State} {arg st0 : Byte} {rest : List ReqWord} {ws : List Byte}
    (hoffer : offers s 0x1 arg rest) (hans : s.writeAnswers = st0 :: ws) (hfail : st0 ≠ 0) :
    ∃ t, runsTo 5 s t ∧ t.seq = .idle ∧ t.reqs = rest ∧
      t.trace = s.trace ++ [.write s.devAddr [0xFE] false st0, .delay 50] ∧
      t.regBuf = s.regBuf ∧ t.wstat = .of st0 ∧ completedWith t.status false 1 := by
  obtain ⟨-, hreset, -⟩ := id hoffer
  obtain ⟨htrace, hwstat, herr, -⟩ := afterDevReset_records hans 0x1 arg rest
  obtain ⟨-, -, hreqs, hkept, -, -, -, -, hreg, -⟩ := afterDevReset_frame s 0x1 arg rest
  have hrecorded : (afterDevReset s 0x1 arg rest).firstErr ≠ .none := by
    rw [herr, noteWrite_eq, if_pos ⟨hfail, rfl⟩]
    decide
  obtain ⟨t, hexec, hstatus, ht⟩ := (beginCompletion arg _).1 rfl hrecorded
  have hstops := beginStops_iff (r := ⟨0x1, arg, 1, .write⟩).2 ⟨rfl, rfl, hrecorded⟩
  have hfinish : step (afterDevReset s 0x1 arg rest) = .next t := by
    rw [step_of_operation (r := ⟨0x1, arg, 1, .write⟩) (hkept.trans hreset) rfl
      (.inr (turn_of_beginStops rfl rfl hstops)) rfl, hexec]
  refine ⟨t, runsTo_add (runsTo_afterDevReset (.inl rfl) hoffer) (runsTo_one hfinish), ?_⟩
  rw [ht]
  exact ⟨rfl, hreqs, htrace, hreg, hwstat, hstatus⟩

/-- The state after BEGIN's second transaction and its decode step, when the read returned `b` (R131). -/
def afterBeginRead (s : State) (arg b : Byte) : State :=
  ((afterHeldRead s txReadUserReg [b] ⟨0x1, arg, 1, .write⟩).setRegBuf b).advance ⟨0x1, arg, 1, .decode⟩

/-- BEGIN's second transaction, held, and the decode step that takes the byte into REGBUF. -/
theorem runsTo_afterBeginRead {s : State} {arg b : Byte} {rs : List ReadAnswer} (hreset : s.resetIn = false)
    (hseq : s.seq = .busy ⟨0x1, arg, 1, .write⟩) (herr : s.firstErr = .none) (hissued : readIssued s s.nextStatus)
    (hans : s.readAnswers = .bytes [b] :: rs) : runsTo 3 s (afterBeginRead s arg b) := by
  have htx (u : State) (ph : TxPhase) : u.currentTx ⟨0x1, arg, 1, ph⟩ = some txReadUserReg := rfl
  have hinstr : hostInstr 0x1 arg ≠ none := Option.some_ne_none _
  have hread := runsTo_afterHeldRead hreset hseq rfl (State.turn_of_write (htx _ _) rfl (by simp [beginStops, herr])) rfl
    (by decide) hissued hans rfl
  have hdecode := step_of_decodePhase ((afterHeldRead_resetIn s txReadUserReg [b] ⟨0x1, arg, 1, .write⟩).trans hreset)
    hinstr (State.setSeq_seq _ _) (htx _ .decode) rfl
  exact runsTo_add hread (runsTo_one hdecode)

/-- What BEGIN's second transaction leaves behind when its write is answered with `st`. -/
theorem afterBeginRead_records {s : State} {st : Byte} {ws : List Byte} (hans : s.writeAnswers = st :: ws) (arg b : Byte) :
    (afterBeginRead s arg b).trace = s.trace ++ [.write s.devAddr [0xE7] true st, .read s.devAddr 1 [b]] ∧
      (afterBeginRead s arg b).wstat = .of st ∧
      (afterBeginRead s arg b).firstErr = noteWrite st s.firstErr := by
  obtain rfl : s.nextStatus = st := State.nextStatus_cons hans
  exact ⟨List.append_assoc s.trace [_] [_], rfl, rfl⟩

theorem afterBeginRead_frame (s : State) (arg b : Byte) :
    let t := afterBeginRead s arg b
    t.params = s.params ∧ t.reqs = s.reqs ∧ t.resetIn = s.resetIn ∧ t.regBuf = .of b := by
  simp [afterBeginRead, afterHeldRead, sendCommand]

/-- BEGIN's completion when the only error recorded can be the last write's: OK and ERR by the byte, that write's status and the
variant (R131, R255). -/
theorem exists_step_beginCompletion {s : State} {arg : Byte} (hreset : s.resetIn = false)
    (hseq : s.seq = .busy ⟨0x1, arg, 2, .write⟩) (herr : s.firstErr = noteWrite s.wstat.val .none) :
    ∃ t, step s = .next t ∧ t = { s with seq := .idle, status := t.status } ∧
      (s.regBuf.val = 0x3A ∨ (s.params.beginVariant = .checkRead ∧ s.wstat.val ≠ 0) →
        completedWith t.status true (writeError s.wstat.val)) ∧
      (s.regBuf.val ≠ 0x3A ∧ (s.params.beginVariant = .ignoreRead ∨ s.wstat.val = 0) →
        completedWith t.status false (if s.wstat.val = 0 then 2 else 1)) := by
  obtain ⟨t, hexec, ht, hdefault, hunchecked, hmismatch⟩ := (beginCompletion arg s).2 hseq
  have hstep : step s = .next t := by
    rw [step_of_operation hreset hseq (.inr (turn_of_opLength_le (Nat.le_refl 2))) rfl, hexec]
  have hcode : s.firstErr.code = writeError s.wstat.val := by rw [herr, noteWrite_none_code]
  rw [herr, mismatch_code] at hmismatch
  refine ⟨t, hstep, ht, fun h => ?_, fun ⟨hne, hvar⟩ => hmismatch hne hvar⟩
  rw [← hcode]
  by_cases heq : s.regBuf.val = 0x3A
  · exact hdefault heq
  · obtain ⟨hcheck, hfail⟩ := h.resolve_left heq
    exact hunchecked heq hcheck hfail

/-- BEGIN when its reset write succeeds: DEV_RESET, the read of the register, then the completion by the comparison (R131). -/
theorem beginRuns_of_succeededReset {s : State} {arg st1 b : Byte} {rest : List ReqWord} {ws : List Byte}
    {rs : List ReadAnswer} (hoffer : offers s 0x1 arg rest) (hwrites : s.writeAnswers = 0 :: st1 :: ws)
    (hreads : s.readAnswers = .bytes [b] :: rs) (hissued : readIssued s st1) :
    ∃ t, runsTo 8 s t ∧ t.seq = .idle ∧ t.reqs = rest ∧
      t.trace = s.trace ++
        [.write s.devAddr [0xFE] false 0, .delay 50, .write s.devAddr [0xE7] true st1, .read s.devAddr 1 [b]] ∧
      t.regBuf = .of b ∧ t.wstat = .of st1 ∧
      (b = 0x3A ∨ (s.params.beginVariant = .checkRead ∧ st1 ≠ 0) → completedWith t.status true (writeError st1)) ∧
      (b ≠ 0x3A ∧ (s.params.beginVariant = .ignoreRead ∨ st1 = 0) →
        completedWith t.status false (if st1 = 0 then 2 else 1)) := by
  obtain ⟨-, hreset, -⟩ := id hoffer
  have hfirst := runsTo_afterDevReset (.inl rfl) hoffer
  have hseq : (afterDevReset s 0x1 arg rest).seq = .busy ⟨0x1, arg, 1, .write⟩ := rfl
  obtain ⟨htrace, -, herr, hws⟩ := afterDevReset_records hwrites 0x1 arg rest
  obtain ⟨hparams, hdev, hreqs, hkept, hrs, -⟩ := afterDevReset_frame s 0x1 arg rest
  generalize afterDevReset s 0x1 arg rest = u at *
  have hsecond : runsTo 3 u (afterBeginRead u arg b) :=
    runsTo_afterBeginRead (hkept.trans hreset) hseq herr (by rwa [State.nextStatus_cons hws, readIssued, hparams])
      (hrs.trans hreads)
  have hseq' : (afterBeginRead u arg b).seq = .busy ⟨0x1, arg, 2, .write⟩ := rfl
  obtain ⟨htrace', hwstat', herr'⟩ := afterBeginRead_records hws arg b
  obtain ⟨hparams', hreqs', hkept', hreg'⟩ := afterBeginRead_frame u arg b
  generalize afterBeginRead u arg b = v at *
  have herrv : v.firstErr = noteWrite v.wstat.val .none := by rw [herr', hwstat', herr]; rfl
  obtain ⟨t, hfinish, ht, hstatus⟩ := exists_step_beginCompletion (hkept'.trans (hkept.trans hreset)) hseq' herrv
  rw [hreg', hwstat', hparams', hparams] at hstatus
  refine ⟨t, runsTo_add hfirst (runsTo_add hsecond (runsTo_one hfinish)), ?_⟩
  rw [ht]
  exact ⟨rfl, hreqs'.trans hreqs, by rw [htrace', htrace, hdev, List.append_assoc]; rfl, hreg', hwstat', hstatus⟩

/-- Settles O52, by the status of the reset write. -/
theorem beginRunsToCompletion : Obligations.BeginRunsToCompletion :=
  ⟨fun _ _ _ _ _ _ _ => beginRuns_of_succeededReset, fun _ _ _ _ _ => beginRuns_of_failedReset⟩

end Sys2Proof.Proofs.InitReset
end

section
/-! The conversions of a measurement code (R154 to R158): a value that binary64 has is rounded to itself, so the humidity is
exact; rounding passes no such value, which bounds the temperature. -/

namespace Sys2Proof.Proofs.Conversion

open Sys2Proof Sys2Proof.Machine Sys2Proof.Claims Sys2Proof.Proofs.Rounding

/-! ## Values that binary64 has -/

/-- A value of at most 53 significant bits, inside binary64's exponent range. -/
def Representable (v : ℚ) : Prop := ∃ k e : ℤ, |k| < 2 ^ 53 ∧ -1074 ≤ e ∧ e ≤ 970 ∧ v = k * 2 ^ e

theorem representable_natCast {n : ℕ} (h : n < 2 ^ 53) : Representable n :=
  ⟨n, 0, by rw [Nat.abs_cast]; exact_mod_cast h, by omega, by omega, by simp⟩

theorem Representable.abs_lt {v : ℚ} (h : Representable v) : |v| < 2 ^ (1023 : ℤ) := by
  obtain ⟨k, e, hk, -, he, rfl⟩ := h
  calc |(k : ℚ) * 2 ^ e| = |(k : ℚ)| * 2 ^ e := by rw [abs_mul, abs_two_zpow]
    _ < 2 ^ 53 * 2 ^ e := by gcongr; exact_mod_cast hk
    _ ≤ 2 ^ 53 * 2 ^ (970 : ℤ) := by gcongr; exact one_le_two
    _ = 2 ^ (1023 : ℤ) := by rw [← zpow_natCast, ← zpow_add₀ two_ne_zero]; rfl

/-- A value that binary64 has lies on the grid a rounding of it uses. -/
theorem Representable.exists_int_of_grid {v : ℚ} {q : ℤ} (h : Representable v)
    (hgrid : q = -1074 ∨ 2 ^ 52 ≤ |v / 2 ^ q|) : ∃ n : ℤ, v / 2 ^ q = n := by
  obtain ⟨k, e, hk, he, -, rfl⟩ := h
  have hquot : (k : ℚ) * 2 ^ e / 2 ^ q = k * 2 ^ (e - q) := by rw [mul_div_assoc, ← zpow_sub₀ two_ne_zero]
  rw [hquot] at hgrid ⊢
  have hle : q ≤ e := by
    by_contra hlt
    have hnormal := hgrid.resolve_left (by omega)
    have hsmall : |(k : ℚ) * 2 ^ (e - q)| < 2 ^ 52 :=
      calc |(k : ℚ) * 2 ^ (e - q)| = |(k : ℚ)| * 2 ^ (e - q) := by rw [abs_mul, abs_two_zpow]
        _ < 2 ^ 53 * 2 ^ (e - q) := by gcongr; exact_mod_cast hk
        _ ≤ 2 ^ 53 * 2 ^ (-1 : ℤ) := by
          gcongr
          · exact one_le_two
          · omega
        _ = 2 ^ 52 := by norm_num
    exact hnormal.not_gt hsmall
  obtain ⟨j, hj⟩ := Int.le.dest hle
  exact ⟨k * 2 ^ j, by rw [show e - q = j by omega, zpow_natCast]; push_cast; rfl⟩

/-- A value that binary64 has is rounded to itself. -/
theorem value64_roundBin64 {d : BinFrac} (h : Representable (valueOf d)) : value64 (roundBin64 d) = valueOf d := by
  obtain ⟨q, n, hround⟩ := exists_isRounding h.abs_lt
  obtain ⟨k, hk⟩ := h.exists_int_of_grid hround.subnormal_or_normal
  have hn : k = n := by
    by_contra hne
    have hhalf := hround.nearest.half_le hne
    rw [hk, sub_self] at hhalf
    norm_num at hhalf
  rw [hround.value, ← hn, ← hk, div_mul_cancel₀ _ (by positivity)]

theorem finite64_roundBin64 {d : BinFrac} (h : |valueOf d| < 2 ^ (1023 : ℤ)) : finite64 (roundBin64 d) := by
  obtain ⟨q, n, hround⟩ := exists_isRounding h
  exact hround.finite

theorem Representable.exists_pattern {v : ℚ} (h : Representable v) : ∃ x, finite64 x ∧ value64 x = v := by
  obtain ⟨k, e, -, -, -, hv⟩ := id h
  have hval : valueOf ⟨k, e⟩ = v := hv.symm
  rw [← hval] at h ⊢
  exact ⟨roundBin64 ⟨k, e⟩, finite64_roundBin64 h.abs_lt, value64_roundBin64 h⟩

/-- Rounding passes no bound that binary64 has: the bound would be nearer. -/
theorem roundBin64_between {d : BinFrac} {lo hi : ℚ} (hlo : Representable lo) (hhi : Representable hi)
    (h : lo ≤ valueOf d ∧ valueOf d ≤ hi) :
    finite64 (roundBin64 d) ∧ lo ≤ value64 (roundBin64 d) ∧ value64 (roundBin64 d) ≤ hi := by
  obtain ⟨hge, hle⟩ := h
  have hd : |valueOf d| < 2 ^ (1023 : ℤ) := (abs_le_max_abs_abs hge hle).trans_lt (max_lt hlo.abs_lt hhi.abs_lt)
  obtain ⟨x, hx, rfl⟩ := hlo.exists_pattern
  obtain ⟨y, hy, rfl⟩ := hhi.exists_pattern
  obtain ⟨hfinite, hnearx, -⟩ := roundingIsToNearestEven d x hd hx
  obtain ⟨-, hneary, -⟩ := roundingIsToNearestEven d y hd hy
  rw [abs_of_nonpos (sub_nonpos.2 hge)] at hnearx
  rw [abs_of_nonneg (sub_nonneg.2 hle)] at hneary
  exact ⟨hfinite, by linarith [(abs_le.1 hnearx).1], by linarith [(abs_le.1 hneary).2]⟩

/-! ## The operations before their rounding -/

theorem valueOf_fracMul (a b : BinFrac) : valueOf (fracMul a b) = valueOf a * valueOf b := by
  simp only [valueOf, fracMul, zpow_add₀ (two_ne_zero (α := ℚ))]
  push_cast
  ring

/-- Lowering the exponent by 16 divides by 65536. -/
theorem valueOf_exp_sub_16 (d : BinFrac) : valueOf ⟨d.num, d.exp - 16⟩ = valueOf d / 65536 := by
  simp only [valueOf, zpow_sub₀ (two_ne_zero (α := ℚ))]
  norm_num
  ring

theorem fracAt_mul {a : BinFrac} {e : ℤ} (h : e ≤ a.exp) : (fracAt a e : ℚ) * 2 ^ e = valueOf a := by
  obtain ⟨j, hj⟩ := Int.le.dest h
  rw [fracAt, valueOf, ← hj, show (e + j - e).toNat = j by omega, zpow_add₀ two_ne_zero, zpow_natCast]
  push_cast
  ring

theorem valueOf_fracSub (a b : BinFrac) : valueOf (fracSub a b) = valueOf a - valueOf b := by
  rw [← fracAt_mul (min_le_left a.exp b.exp), ← fracAt_mul (min_le_right a.exp b.exp), ← sub_mul]
  simp [valueOf, fracSub]

theorem ltBin64_iff (a b : Bin64) : ltBin64 a b = true ↔ value64 a < value64 b := by
  have hpos : (0 : ℚ) < 2 ^ min (fracOf a).exp (fracOf b).exp := by positivity
  rw [value64, value64, ← fracAt_mul (min_le_left (fracOf a).exp (fracOf b).exp),
    ← fracAt_mul (min_le_right (fracOf a).exp (fracOf b).exp), mul_lt_mul_iff_left₀ hpos, Int.cast_lt]
  exact decide_eq_true_iff

/-! ## The operations where they are exact -/

theorem value64_mulBin64 {a b : Bin64} (h : Representable (value64 a * value64 b)) :
    value64 (mulBin64 a b) = value64 a * value64 b := by
  have hexact : valueOf (fracMul (fracOf a) (fracOf b)) = value64 a * value64 b := valueOf_fracMul _ _
  rw [← hexact] at h ⊢
  exact value64_roundBin64 h

theorem value64_div65536Bin64 {a : Bin64} (h : Representable (value64 a / 65536)) :
    value64 (div65536Bin64 a) = value64 a / 65536 := by
  have hexact : valueOf ⟨(fracOf a).num, (fracOf a).exp - 16⟩ = value64 a / 65536 := valueOf_exp_sub_16 _
  rw [← hexact] at h ⊢
  exact value64_roundBin64 h

theorem subBin64_of_representable {a b : Bin64} (h : Representable (value64 a - value64 b)) :
    finite64 (subBin64 a b) ∧ value64 (subBin64 a b) = value64 a - value64 b := by
  have hexact : valueOf (fracSub (fracOf a) (fracOf b)) = value64 a - value64 b := valueOf_fracSub _ _
  rw [← hexact] at h ⊢
  exact ⟨finite64_roundBin64 h.abs_lt, value64_roundBin64 h⟩

theorem value64_roundBin64_natCast {n : ℕ} (h : n < 2 ^ 53) : value64 (roundBin64 ⟨n, 0⟩) = n := by
  have hval : valueOf ⟨n, 0⟩ = n := by simp [valueOf]
  rw [value64_roundBin64 (hval ▸ representable_natCast h), hval]

theorem value64_bin64OfCode (raw : MeasCode) : value64 (bin64OfCode raw) = raw.toNat :=
  value64_roundBin64_natCast (by omega)

theorem value64_bin64Of125 : value64 bin64Of125 = 125 := value64_roundBin64_natCast (n := 125) (by omega)

theorem value64_bin64Of6 : value64 bin64Of6 = 6 := value64_roundBin64_natCast (n := 6) (by omega)

theorem value64_bin64Of0 : value64 bin64Of0 = 0 := by simp [value64, valueOf, fracOf, bin64Of0]

theorem value64_bin64Of100 : value64 bin64Of100 = 100 := value64_roundBin64_natCast (n := 100) (by omega)

/-! ## Humidity -/

/-- Settles O42: a product of a code with 125 has 23 bits, and neither later step needs more than 53. -/
theorem humidityConversionIsExact : Obligations.HumidityConversionIsExact := by
  intro raw
  have hmul : value64 (mulBin64 (bin64OfCode raw) bin64Of125) = 125 * (raw.toNat : ℚ) := by
    have hval : value64 (bin64OfCode raw) * value64 bin64Of125 = (125 * raw.toNat : ℕ) := by
      rw [value64_bin64OfCode, value64_bin64Of125, mul_comm]
      push_cast
      rfl
    rw [value64_mulBin64 (hval ▸ representable_natCast (by omega)), hval]
    push_cast
    rfl
  have hdiv : value64 (div65536Bin64 (mulBin64 (bin64OfCode raw) bin64Of125)) = 125 * (raw.toNat : ℚ) / 65536 := by
    have hrep : Representable (125 * (raw.toNat : ℚ) / 65536) :=
      ⟨125 * raw.toNat, -16, by rw [abs_of_nonneg] <;> omega, by omega, by omega, by push_cast; norm_num; ring⟩
    rw [value64_div65536Bin64 (by rwa [hmul]), hmul]
  have hrep : Representable (125 * (raw.toNat : ℚ) / 65536 - 6) :=
    ⟨125 * raw.toNat - 393216, -16, by rw [abs_lt]; omega, by omega, by omega, by push_cast; norm_num; ring⟩
  obtain ⟨hfinite, hsub⟩ := subBin64_of_representable (a := div65536Bin64 (mulBin64 (bin64OfCode raw) bin64Of125))
    (b := bin64Of6) (by rwa [hdiv, value64_bin64Of6])
  rw [hdiv, value64_bin64Of6] at hsub
  exact ⟨hmul, hdiv, hsub, hfinite, hsub.trans (by ring)⟩

theorem maxBin64_eq (a b : Bin64) : maxBin64 a b = if value64 a < value64 b then b else a := by
  simp only [maxBin64, ltBin64_iff]

theorem minBin64_eq (a b : Bin64) : minBin64 a b = if value64 b < value64 a then b else a := by
  simp only [minBin64, ltBin64_iff]

theorem value64_maxBin64 (a b : Bin64) : value64 (maxBin64 a b) = max (value64 a) (value64 b) := by
  rw [maxBin64_eq]
  split
  case isTrue h => exact (max_eq_right h.le).symm
  case isFalse h => exact (max_eq_left (not_lt.1 h)).symm

theorem value64_minBin64 (a b : Bin64) : value64 (minBin64 a b) = min (value64 a) (value64 b) := by
  rw [minBin64_eq]
  split
  case isTrue h => exact (min_eq_right h.le).symm
  case isFalse h => exact (min_eq_left (not_lt.1 h)).symm

theorem value64_clampRh (h : Bin64) : value64 (clampRh h) = min (max (value64 h) 0) 100 := by
  rw [clampRh, value64_minBin64, value64_maxBin64, value64_bin64Of0, value64_bin64Of100]

/-- Inside the range both comparisons answer the value itself (R155). -/
theorem clampRh_of_mem {h : Bin64} (h0 : 0 ≤ value64 h) (h100 : value64 h ≤ 100) : clampRh h = h := by
  have hmax : maxBin64 h bin64Of0 = h := by rw [maxBin64_eq, value64_bin64Of0, if_neg h0.not_gt]
  rw [clampRh, hmax, minBin64_eq, value64_bin64Of100, if_neg h100.not_gt]

/-- The clamped value is the value itself or one of the two bounds. -/
theorem finite64_clampRh {h : Bin64} (hfinite : finite64 h) : finite64 (clampRh h) := by
  have hzero : finite64 bin64Of0 := by unfold finite64; decide
  have hhundred : finite64 bin64Of100 := by unfold finite64; decide +kernel
  rw [clampRh, minBin64_eq, maxBin64_eq]
  split_ifs <;> assumption

/-- Settles O43: `min` and `max` of the patterns are those of the values, and inside the range neither changes the pattern. -/
theorem humidityIsClamped : Obligations.HumidityIsClamped := by
  intro raw
  obtain ⟨-, -, -, hfinite, -⟩ := humidityConversionIsExact raw
  rw [value64_clampRh]
  exact ⟨rfl, le_min (le_max_right _ _) (by norm_num), min_le_right _ _, finite64_clampRh hfinite, clampRh_of_mem⟩

/-! ## Temperature -/

theorem fracOf_k1 : fracOf Config.k1 = ⟨6182597863449559, -45⟩ := by decide

theorem fracOf_k2 : fracOf Config.k2 = ⟨6593551329447117, -47⟩ := by decide

/-- Settles O45: the constants by their fields. -/
theorem temperatureConstants : Obligations.TemperatureConstants := by
  rw [Obligations.TemperatureConstants, value64, value64, fracOf_k1, fracOf_k2]
  constructor <;> norm_num [valueOf]

/-- Settles O59: the fractions are those the model rounds. -/
theorem temperatureConversionRoundsEachStep : Obligations.TemperatureConversionRoundsEachStep := by
  intro raw
  obtain ⟨hk1, hk2⟩ := temperatureConstants
  refine ⟨fracMul (fracOf (bin64OfCode raw)) (fracOf Config.k1), _, fracSub _ (fracOf Config.k2), ?_,
    valueOf_exp_sub_16 _, ?_, rfl⟩
  · rw [valueOf_fracMul, ← hk1, ← value64_bin64OfCode]
    rfl
  · rw [valueOf_fracSub, ← hk2]
    rfl

theorem value64_lowestTemperature : value64 0xC0476CCCCCCCCCCD = -6593551329447117 / 2 ^ 47 := by
  have hfrac : fracOf 0xC0476CCCCCCCCCCD = ⟨-6593551329447117, -47⟩ := by decide
  rw [value64, hfrac]
  norm_num [valueOf]

theorem value64_highestTemperature : value64 0x40601BC113333333 = 4534115692131123 / 2 ^ 45 := by
  have hfrac : fracOf 0x40601BC113333333 = ⟨4534115692131123, -45⟩ := by decide
  rw [value64, hfrac]
  norm_num [valueOf]

theorem convT_first : convT 0x0000 = 0xC0476CCCCCCCCCCD := by decide +kernel

theorem convT_last : convT 0xFFFF = 0x40601BC113333333 := by decide +kernel

/-- Below the last code the product with K1 is at most 11515800, a bound that the later steps carry to the end. -/
theorem convT_between {raw : MeasCode} (hraw : raw.toNat ≤ 65534) :
    finite64 (convT raw) ∧ -6593551329447117 / 2 ^ 47 ≤ value64 (convT raw) ∧
      value64 (convT raw) ≤ 4534115692131123 / 2 ^ 45 := by
  obtain ⟨p, q, d, hp, hq, hd, hconv⟩ := temperatureConversionRoundsEachStep raw
  have hcode : (raw.toNat : ℚ) ≤ 65534 := by exact_mod_cast hraw
  have hzero : Representable 0 := by simpa using representable_natCast (n := 0) (by omega)
  have hproduct : Representable 11515800 := by simpa using representable_natCast (n := 11515800) (by omega)
  have hquotient : Representable (11515800 / 65536) := ⟨11515800, -16, by norm_num, by omega, by omega, by norm_num⟩
  have hlowest : Representable (-6593551329447117 / 2 ^ 47) :=
    ⟨-6593551329447117, -47, by norm_num, by omega, by omega, by norm_num⟩
  have hhighest : Representable (4534115692131123 / 2 ^ 45) :=
    ⟨4534115692131123, -45, by norm_num, by omega, by omega, by norm_num⟩
  obtain ⟨-, hp0, hp1⟩ := roundBin64_between (d := p) hzero hproduct (by rw [hp]; constructor <;> linarith)
  obtain ⟨-, hq0, hq1⟩ := roundBin64_between (d := q) hzero hquotient (by rw [hq]; constructor <;> linarith)
  rw [hconv]
  exact roundBin64_between hlowest hhighest (by rw [hd]; constructor <;> linarith)

/-- Settles O44: the last code is computed, the codes below it are bounded. -/
theorem temperatureIsInRange : Obligations.TemperatureIsInRange := by
  intro raw
  rw [value64_lowestTemperature, value64_highestTemperature]
  by_cases hlast : raw = 0xFFFF
  · have hfinite : finite64 0x40601BC113333333 := by unfold finite64; decide
    rw [hlast, convT_last, value64_highestTemperature]
    exact ⟨hfinite, by norm_num, le_rfl, convT_first, rfl⟩
  · have hne : raw.toNat ≠ 65535 := fun h => hlast (BitVec.eq_of_toNat_eq h)
    obtain ⟨hfinite, hlow, hhigh⟩ := convT_between (raw := raw) (by omega)
    exact ⟨hfinite, hlow, hhigh, convT_first, convT_last⟩

end Sys2Proof.Proofs.Conversion
end

section
/-! READ_RH, READ_T and READ_LAST_T (spec/42_measurement.md): their decode steps, and the three operations from acceptance to
completion. -/

namespace Sys2Proof.Proofs.Measurement

open Sys2Proof Sys2Proof.Machine Sys2Proof.Claims Sys2Proof.Proofs.Steps Sys2Proof.Proofs.StateRules
  Sys2Proof.Proofs.Encoding Sys2Proof.Proofs.BusPhases Sys2Proof.Proofs.Sequence Sys2Proof.Proofs.Runs
  Sys2Proof.Proofs.InitReset

/-! ## The decode steps -/

/-- A validation writes CRCREG and VALID, and both only with CAP_CHECKSUM (R211 to R215). -/
theorem validate_eq (s : State) :
    s.validate = { s with
      crcReg := if s.params.capChecksum then .of (crc8 [s.rxBuf[0].val, s.rxBuf[1].val]) else s.crcReg
      valid := if s.params.capChecksum then decide (crc8 [s.rxBuf[0].val, s.rxBuf[1].val] = s.rxBuf[2].val)
        else s.valid } := by
  unfold State.validate
  split <;> rfl

theorem rxCode_eq (s : State) : s.rxCode = s.rxBuf[0].val ++ s.rxBuf[1].val := packBe16_eq_append _ _

/-- The decode step that READ_RH and READ_T share, with the conversion that tells them apart (R150, R151). -/
def decodeChecked (conv : MeasCode → Bin64) (s : State) : State := (s.setMeasurement s.rxCode (conv s.rxCode)).validate

theorem decodeChecked_eq (conv : MeasCode → Bin64) (s : State) :
    decodeChecked conv s = { s with
      raw := .of (s.rxBuf[0].val ++ s.rxBuf[1].val)
      result := .of (conv (s.rxBuf[0].val ++ s.rxBuf[1].val))
      crcReg := if s.params.capChecksum then .of (crc8 [s.rxBuf[0].val, s.rxBuf[1].val]) else s.crcReg
      valid := if s.params.capChecksum then decide (crc8 [s.rxBuf[0].val, s.rxBuf[1].val] = s.rxBuf[2].val)
        else s.valid } := by
  rw [decodeChecked, validate_eq, rxCode_eq]
  rfl

theorem decodeReadLastT_eq (r : Running) (s : State) :
    decodeReadLastT r s = { s with
      raw := .of (s.rxBuf[0].val ++ s.rxBuf[1].val)
      result := .of (convT (s.rxBuf[0].val ++ s.rxBuf[1].val)) } := by
  rw [decodeReadLastT, rxCode_eq]
  rfl

/-- Settles O27: READ_RH's one transaction is current, in its DECODE phase. -/
theorem readRhDecodes : Obligations.ReadRhDecodes := by
  intro arg s hseq
  rw [exec_of_decodePhase (r := ⟨0x2, arg, 0, .decode⟩) (tx := txMeasRh s.params) rfl rfl rfl hseq]
  exact congrArg (fun t => Host.Outcome.next (State.advance t ⟨0x2, arg, 0, .decode⟩))
    (decodeChecked_eq (fun code => clampRh (convRh code)) s)

/-- Settles O28: as READ_RH's, with the temperature conversion. -/
theorem readTDecodes : Obligations.ReadTDecodes := by
  intro arg s hseq
  rw [exec_of_decodePhase (r := ⟨0x3, arg, 0, .decode⟩) (tx := txMeasT s.params) rfl rfl rfl hseq]
  exact congrArg (fun t => Host.Outcome.next (State.advance t ⟨0x3, arg, 0, .decode⟩)) (decodeChecked_eq convT s)

/-- Settles O29: READ_LAST_T's decode step has no validation. -/
theorem readLastTDecodes : Obligations.ReadLastTDecodes := by
  intro arg s hseq
  rw [exec_of_decodePhase (r := ⟨0x4, arg, 0, .decode⟩) (tx := txReadPrevT) rfl rfl rfl hseq]
  exact congrArg (fun t => Host.Outcome.next (State.advance t ⟨0x4, arg, 0, .decode⟩))
    (decodeReadLastT_eq ⟨0x4, arg, 0, .decode⟩ s)

/-! ## A transaction with a wait and a read -/

/-- The DECODE phase of a command with a settle delay whose read returned `bs` (R104, R108, R109). -/
def afterSettledRead (s : State) (tx : Transaction) (bs : List Byte) (r : Running) : State :=
  (((((sendCommand s tx).record (.delay tx.d)).takeBytes tx.n).loadRx bs).record (.read s.devAddr tx.n bs)).setSeq
    (.busy { r with txph := .decode })

/-- A settle delay before a response goes on to the READ phase (R104). -/
theorem settlePhase_of_response {tx : Transaction} (hn : 0 < tx.n) (s : State) (r : Running) :
    s.settlePhase tx r = (s.record (.delay tx.d)).setSeq (.busy { r with txph := .read }) :=
  if_pos hn

/-- A command with a settle delay and a listed answer, from its WRITE phase to its DECODE phase. -/
theorem runsTo_afterSettledRead {s : State} {r : Running} {tx : Transaction} {bs : List Byte} {rs : List ReadAnswer}
    (hreset : s.resetIn = false) (hseq : s.seq = .busy r) (hph : r.txph = .write) (hturn : s.turn r = .bus tx)
    (hd : 0 < tx.d) (hn : 0 < tx.n) (hissued : readIssued s s.nextStatus) (hans : s.readAnswers = .bytes bs :: rs)
    (hlen : bs.length = tx.n) : runsTo 3 s (afterSettledRead s tx bs r) := by
  have hcurrent := State.currentTx_of_turn_bus hturn
  have hwrite := step_of_writePhase hreset hseq hph hturn
  rw [writePhase_of_delay hd] at hwrite
  have hsettle := step_of_settlePhase (s := (sendCommand s tx).setSeq (.busy { r with txph := .settle })) (by simpa using hreset)
    (State.setSeq_seq _ _) rfl (currentTx_congr hcurrent (by simp) (by simp) .settle)
  rw [settlePhase_of_response hn] at hsettle
  have hread := step_of_readPhase (s := ((sendCommand s tx).record (.delay tx.d)).setSeq (.busy { r with txph := .read }))
    (by simpa using hreset) (State.setSeq_seq _ _) rfl (currentTx_congr hcurrent (by simp) (by simp) .read)
  rw [readPhase_of_returns (bs := bs) (by simpa [readIssued, Reg.of] using hissued)
    (State.nextBytes_exact (rest := rs) (by simpa using hans) hlen), State.setSeq_devAddr, State.record_devAddr,
    sendCommand_devAddr] at hread
  exact runsTo_add (runsTo_one hwrite) (runsTo_add (runsTo_one hsettle) (runsTo_one hread))

/-- The event of a write (R105, R106). -/
theorem sendCommand_trace {tx : Transaction} (hlen : tx.cmd.length ≤ 3) (s : State) :
    (sendCommand s tx).trace = s.trace ++ [.write s.devAddr tx.cmd tx.hold s.nextStatus] := by
  have hframe : (sendCommand s tx).txFrame = tx.cmd := State.txFrame_loadTx s tx.cmd hlen
  rw [← hframe]
  rfl

/-! ## From acceptance to the DECODE phase -/

/-- READ_RH, READ_T or READ_LAST_T (R71). -/
def isMeasurement (op : OpCode) : Prop := op = 0x2 ∨ op = 0x3 ∨ op = 0x4

theorem hostInstr_of_isMeasurement {op : OpCode} (hop : isMeasurement op) (arg : Byte) : hostInstr op arg ≠ none := by
  rcases hop with rfl | rfl | rfl <;> exact Option.some_ne_none _

theorem capability_of_isMeasurement {op : OpCode} (hop : isMeasurement op) (p : Params) : capability p op = true := by
  rcases hop with rfl | rfl | rfl <;> rfl

/-- A measurement has one transaction, at USTEP 0 (R116). -/
theorem exists_currentTx_of_isMeasurement {op : OpCode} (hop : isMeasurement op) (s : State) (arg : Byte) (ph : TxPhase) :
    ∃ tx, s.currentTx ⟨op, arg, 0, ph⟩ = some tx := by
  rcases hop with rfl | rfl | rfl <;> exact ⟨_, rfl⟩

/-- `s` once it has accepted OP:ARG, with `rest` left at the port (R100). -/
def accepted (s : State) (op : OpCode) (arg : Byte) (rest : List ReqWord) : State := State.accept { s with reqs := rest } op arg

theorem step_of_isMeasurement {s : State} {op : OpCode} {arg : Byte} {rest : List ReqWord} (hop : isMeasurement op)
    (hoffer : offers s op arg rest) : step s = .next (accepted s op arg rest) :=
  step_of_acceptedOperation hoffer (hostInstr_of_isMeasurement hop arg) (capability_of_isMeasurement hop s.params)

/-- The first transaction of a measurement is the bus's turn (R115). -/
theorem turn_accepted {s : State} {op : OpCode} {arg : Byte} {rest : List ReqWord} {tx : Transaction}
    (htx : (accepted s op arg rest).currentTx ⟨op, arg, 0, .write⟩ = some tx) :
    (accepted s op arg rest).turn ⟨op, arg, 0, .write⟩ = .bus tx :=
  State.turn_of_write htx rfl (by simp [beginStops])

/-- `u` is `s` with OP:ARG accepted and its transaction run up to the DECODE phase: these `events`, a write answered with `st`,
the bytes `bs` received. -/
structure Received (s u : State) (op : OpCode) (arg : Byte) (rest : List ReqWord) (events : List Event) (st : Byte)
    (bs : List Byte) : Prop where
  seq : u.seq = .busy ⟨op, arg, 0, .decode⟩
  resetIn : u.resetIn = s.resetIn
  reqs : u.reqs = rest
  trace : u.trace = s.trace ++ events
  wstat : u.wstat = .of st
  firstErr : u.firstErr = noteWrite st .none
  rxBuf : u.rxBuf = rxOf bs
  params : u.params = s.params
  valid : u.valid = s.valid
  regBuf : u.regBuf = s.regBuf
  serial : u.serial = s.serial
  fwRev : u.fwRev = s.fwRev

section
variable {s : State} {op : OpCode} {arg st : Byte} {rest : List ReqWord} {ws : List Byte} {tx : Transaction}
  {bs : List Byte} {rs : List ReadAnswer}
  (hop : isMeasurement op) (hoffer : offers s op arg rest) (hwrites : s.writeAnswers = st :: ws)
  (hissued : readIssued s st) (hreads : s.readAnswers = .bytes bs :: rs)
  (htx : (accepted s op arg rest).currentTx ⟨op, arg, 0, .write⟩ = some tx) (hcmd : tx.cmd.length ≤ 3)
  (hn : 0 < tx.n) (hlen : bs.length = tx.n)
include hop hoffer hwrites hissued hreads htx hcmd hn hlen

/-- Acceptance, then the WRITE, SETTLE and READ phase. -/
theorem exists_received_settled (hd : 0 < tx.d) :
    ∃ u, runsTo 4 s u ∧
      Received s u op arg rest [.write s.devAddr tx.cmd tx.hold st, .delay tx.d, .read s.devAddr tx.n bs] st bs := by
  obtain ⟨-, hreset, -⟩ := id hoffer
  obtain rfl : s.nextStatus = st := State.nextStatus_cons hwrites
  have hrun : runsTo 3 (accepted s op arg rest) (afterSettledRead (accepted s op arg rest) tx bs ⟨op, arg, 0, .write⟩) :=
    runsTo_afterSettledRead hreset rfl rfl (turn_accepted htx) hd hn hissued hreads hlen
  refine ⟨_, runsTo_add (runsTo_one (step_of_isMeasurement hop hoffer)) hrun, ?_⟩
  constructor
  case trace =>
    simp only [afterSettledRead, State.setSeq_trace, State.record_trace, State.loadRx_trace, State.takeBytes_trace,
      sendCommand_trace hcmd, List.append_assoc]
    rfl
  all_goals rfl

/-- Acceptance, then the held write and its READ phase. -/
theorem exists_received_held (hd : tx.d = 0) :
    ∃ u, runsTo 3 s u ∧ Received s u op arg rest [.write s.devAddr tx.cmd tx.hold st, .read s.devAddr tx.n bs] st bs := by
  obtain ⟨-, hreset, -⟩ := id hoffer
  obtain rfl : s.nextStatus = st := State.nextStatus_cons hwrites
  have hrun : runsTo 2 (accepted s op arg rest) (afterHeldRead (accepted s op arg rest) tx bs ⟨op, arg, 0, .write⟩) :=
    runsTo_afterHeldRead hreset rfl rfl (turn_accepted htx) hd hn hissued hreads hlen
  refine ⟨_, runsTo_add (runsTo_one (step_of_isMeasurement hop hoffer)) hrun, ?_⟩
  constructor
  case trace =>
    simp only [afterHeldRead, State.setSeq_trace, State.record_trace, State.loadRx_trace, State.takeBytes_trace,
      sendCommand_trace hcmd, List.append_assoc]
    rfl
  all_goals rfl

end

/-! ## From the DECODE phase to completion -/

/-- What the three operations end in alike: `events` observed, OK and ERR by the status `st` of the write (R113), no other
operation's result changed. -/
def completesMeasurement (s t : State) (rest : List ReqWord) (events : List Event) (st : Byte) : Prop :=
  t.seq = .idle ∧ t.reqs = rest ∧ t.trace = s.trace ++ events ∧ t.wstat = .of st ∧
    completedWith t.status (decide (st = 0)) (writeError st) ∧ t.regBuf = s.regBuf ∧ t.serial = s.serial ∧ t.fwRev = s.fwRev

/-- RAW, RESULT and VALID are those of `v`. -/
def sameMeasurement (v t : State) : Prop := t.raw = v.raw ∧ t.result = v.result ∧ t.valid = v.valid

/-- A request past its one transaction completes by default (R113). -/
theorem exists_step_completion {s : State} {op : OpCode} {arg : Byte} (hop : isMeasurement op) (hreset : s.resetIn = false)
    (hseq : s.seq = .busy ⟨op, arg, 1, .write⟩) :
    ∃ t, step s = .next t ∧ completedWith t.status (decide (s.firstErr = .none)) s.firstErr.code ∧
      t = { s with seq := .idle, status := t.status, devinfoDone := s.devinfoDone || decide (op = 0x6) } := by
  obtain ⟨i, hi⟩ := Option.ne_none_iff_exists'.1 (hostInstr_of_isMeasurement hop arg)
  have hturn : s.turn ⟨op, arg, 1, .write⟩ = .finish :=
    turn_of_opLength_le (by rcases hop with rfl | rfl | rfl <;> exact Nat.le_refl 1)
  rw [step_of_operation hreset hseq (.inr hturn) hi]
  refine defaultCompletion i op arg 1 s (requestRow_of_hostInstr hi) ?_ ?_ ?_ hseq <;>
    rcases hop with rfl | rfl | rfl <;> decide

/-- No error is recorded exactly when the write succeeded (R107). -/
theorem decide_noteWrite_none (st : Byte) : decide (noteWrite st .none = .none) = decide (st = 0) := by
  rw [noteWrite_none]
  split
  case isTrue hok => rw [decide_eq_true hok]; rfl
  case isFalse hfail => rw [decide_eq_false hfail]; rfl

/-- The decode step, then the completion. -/
theorem Received.exists_end {s u : State} {op : OpCode} {arg st : Byte} {rest : List ReqWord} {events : List Event}
    {bs : List Byte} (h : Received s u op arg rest events st bs) (hop : isMeasurement op) (hreset : s.resetIn = false) :
    ∃ t, runsTo 2 u t ∧ completesMeasurement s t rest events st ∧
      sameMeasurement (opDecode op ⟨op, arg, 0, .decode⟩ u) t := by
  obtain ⟨tx, htx⟩ := exists_currentTx_of_isMeasurement hop u arg .decode
  have hdecode := step_of_decodePhase (h.resetIn.trans hreset) (hostInstr_of_isMeasurement hop arg) h.seq htx rfl
  obtain ⟨⟨hbus, -, herr, -⟩, -, -, hreg, hident⟩ := opDecode_frame op ⟨op, arg, 0, .decode⟩ u
  obtain ⟨-, -, -, hwstat, -, -, -, -, hreqs, hkept, -, -, -, htrace⟩ := hbus
  have hregs := hreg (by rcases hop with rfl | rfl | rfl <;> decide)
  obtain ⟨hserial, hfw⟩ := hident (by rcases hop with rfl | rfl | rfl <;> decide)
  dsimp only at hdecode
  generalize opDecode op ⟨op, arg, 0, .decode⟩ u = v at *
  obtain ⟨t, hfinish, hstatus, ht⟩ :=
    exists_step_completion (s := v.advance ⟨op, arg, 0, .decode⟩) hop (hkept.trans (h.resetIn.trans hreset)) rfl
  have herrv : (v.advance ⟨op, arg, 0, .decode⟩).firstErr = noteWrite st .none := herr.trans h.firstErr
  rw [herrv, decide_noteWrite_none, noteWrite_none_code] at hstatus
  refine ⟨t, runsTo_add (runsTo_one hdecode) (runsTo_one hfinish), ?_⟩
  rw [ht]
  exact ⟨⟨rfl, hreqs.trans h.reqs, htrace.trans h.trace, hwstat.trans h.wstat, hstatus, hregs.trans h.regBuf,
    hserial.trans h.serial, hfw.trans h.fwRev⟩, rfl, rfl, rfl⟩

/-! ## Whole operations -/

/-- The response of a measurement with CAP_CHECKSUM or without (R72, R82). -/
def measResponse (p : Params) (b0 b1 c : Byte) : List Byte := if p.capChecksum then [b0, b1, c] else [b0, b1]

theorem measResponse_length (p : Params) (b0 b1 c : Byte) : (measResponse p b0 b1 c).length = measLength p := by
  unfold measResponse measLength
  split <;> rfl

theorem measLength_pos (p : Params) : 0 < measLength p := by
  unfold measLength
  split <;> decide

/-- What the checked decode step makes of a response. -/
theorem decodeChecked_of_response {u : State} {b0 b1 c : Byte} (hrx : u.rxBuf = rxOf (measResponse u.params b0 b1 c))
    (conv : MeasCode → Bin64) :
    (decodeChecked conv u).raw = .of (b0 ++ b1) ∧ (decodeChecked conv u).result = .of (conv (b0 ++ b1)) ∧
      (decodeChecked conv u).valid = if u.params.capChecksum then decide (crc8 [b0, b1] = c) else u.valid := by
  rw [decodeChecked_eq, hrx, measResponse]
  cases u.params.capChecksum <;> exact ⟨rfl, rfl, rfl⟩

theorem decodeReadLastT_of_response {u : State} {b0 b1 : Byte} (hrx : u.rxBuf = rxOf [b0, b1]) (r : Running) :
    (decodeReadLastT r u).raw = .of (b0 ++ b1) ∧ (decodeReadLastT r u).result = .of (convT (b0 ++ b1)) ∧
      (decodeReadLastT r u).valid = u.valid := by
  rw [decodeReadLastT_eq, hrx]
  exact ⟨rfl, rfl, rfl⟩

/-- READ_RH and READ_T from acceptance to completion: they differ in OP, command and conversion only (R150, R151). -/
theorem exists_runsTo_checkedMeasurement {s : State} {op : OpCode} {arg st cmd b0 b1 c : Byte} {rest : List ReqWord}
    {ws : List Byte} {rs : List ReadAnswer} {conv : MeasCode → Bin64} (hop : isMeasurement op)
    (htx : (accepted s op arg rest).currentTx ⟨op, arg, 0, .write⟩ = some ⟨[cmd], measLength s.params, 25⟩)
    (hconv : ∀ u, opDecode op ⟨op, arg, 0, .decode⟩ u = decodeChecked conv u) (hoffer : offers s op arg rest)
    (hwrites : s.writeAnswers = st :: ws) (hissued : readIssued s st)
    (hreads : s.readAnswers = .bytes (measResponse s.params b0 b1 c) :: rs) :
    ∃ t, runsTo 6 s t ∧
      completesMeasurement s t rest [.write s.devAddr [cmd] false st, .delay 25,
        .read s.devAddr (measLength s.params) (measResponse s.params b0 b1 c)] st ∧
      t.raw = .of (b0 ++ b1) ∧ t.result = .of (conv (b0 ++ b1)) ∧
      t.valid = if s.params.capChecksum then decide (crc8 [b0, b1] = c) else s.valid := by
  obtain ⟨-, hreset, -⟩ := id hoffer
  obtain ⟨u, hrun, hu⟩ := exists_received_settled hop hoffer hwrites hissued hreads htx (by simp)
    (measLength_pos s.params) (measResponse_length _ _ _ _) (by simp)
  obtain ⟨t, hend, ht, hraw, hresult, hvalid⟩ := hu.exists_end hop hreset
  have hhold : (⟨[cmd], measLength s.params, 25⟩ : Transaction).hold = false := by simp [Transaction.hold]
  have hrx : u.rxBuf = rxOf (measResponse u.params b0 b1 c) := by rw [hu.params, hu.rxBuf]
  obtain ⟨hraw', hresult', hvalid'⟩ := decodeChecked_of_response hrx conv
  rw [hhold] at ht
  rw [hu.params, hu.valid] at hvalid'
  rw [hconv] at hraw hresult hvalid
  exact ⟨t, runsTo_add hrun hend, ht, hraw.trans hraw', hresult.trans hresult', hvalid.trans hvalid'⟩

/-- Settles O53: a checked measurement by F5, with the clamped humidity. -/
theorem readRhRunsToCompletion : Obligations.ReadRhRunsToCompletion := by
  intro s arg st b0 b1 c rest ws rs hoffer hwrites hissued hreads
  obtain ⟨t, hrun, ⟨hseq, hreqs, htrace, hwstat, hstatus, hkept⟩, hraw, hresult, hvalid⟩ :=
    exists_runsTo_checkedMeasurement (conv := fun code => clampRh (convRh code)) (.inl rfl) rfl (fun _ => rfl) hoffer hwrites
      hissued hreads
  exact ⟨t, hrun, hseq, hreqs, htrace, hraw, hresult, hvalid, hwstat, hstatus, hkept⟩

/-- Settles O54: a checked measurement by F3, with the temperature. -/
theorem readTRunsToCompletion : Obligations.ReadTRunsToCompletion := by
  intro s arg st b0 b1 c rest ws rs hoffer hwrites hissued hreads
  obtain ⟨t, hrun, ⟨hseq, hreqs, htrace, hwstat, hstatus, hkept⟩, hraw, hresult, hvalid⟩ :=
    exists_runsTo_checkedMeasurement (conv := convT) (.inr (.inl rfl)) rfl (fun _ => rfl) hoffer hwrites hissued hreads
  exact ⟨t, hrun, hseq, hreqs, htrace, hraw, hresult, hvalid, hwstat, hstatus, hkept⟩

/-- Settles O55: a held transaction, then a decode step without validation. -/
theorem readLastTRunsToCompletion : Obligations.ReadLastTRunsToCompletion := by
  intro s arg st b0 b1 rest ws rs hoffer hwrites hissued hreads
  have hop : isMeasurement 0x4 := .inr (.inr rfl)
  obtain ⟨-, hreset, -⟩ := id hoffer
  obtain ⟨u, hrun, hu⟩ := exists_received_held (tx := txReadPrevT) hop hoffer hwrites hissued hreads rfl (by decide) (by decide)
    rfl rfl
  obtain ⟨t, hend, ⟨hseq, hreqs, htrace, hwstat, hstatus, hkept⟩, hraw, hresult, hvalid⟩ := hu.exists_end hop hreset
  obtain ⟨hraw', hresult', hvalid'⟩ := decodeReadLastT_of_response hu.rxBuf ⟨0x4, arg, 0, .decode⟩
  exact ⟨t, runsTo_add hrun hend, hseq, hreqs, htrace, hraw.trans hraw', hresult.trans hresult',
    hvalid.trans (hvalid'.trans hu.valid), hwstat, hstatus, hkept⟩

end Sys2Proof.Proofs.Measurement
end

section
/-! READ_DEVINFO (spec/43_identity.md): its three decode steps; a request of held transactions from acceptance to its default
completion; and READ_DEVINFO, which is such a request. -/

namespace Sys2Proof.Proofs.Identity

open Sys2Proof Sys2Proof.Machine Sys2Proof.Claims Sys2Proof.Proofs.Steps Sys2Proof.Proofs.StateRules
  Sys2Proof.Proofs.BusPhases Sys2Proof.Proofs.Sequence Sys2Proof.Proofs.Runs Sys2Proof.Proofs.Measurement

/-! ## The decode steps -/

/-- Settles O30: at each of the three places a transaction is current, in its DECODE phase. -/
theorem readDevinfoDecodes : Obligations.ReadDevinfoDecodes := fun arg s =>
  ⟨exec_of_decodePhase (s := s) (r := ⟨0x6, arg, 0, .decode⟩) rfl rfl rfl,
    exec_of_decodePhase (s := s) (r := ⟨0x6, arg, 1, .decode⟩) rfl rfl rfl,
    exec_of_decodePhase (s := s) (r := ⟨0x6, arg, 2, .decode⟩) rfl rfl rfl⟩

/-- SERIAL and FWREV after READ_DEVINFO's decode step come from RXBUF and from what they held (R180, R181). -/
theorem decodeReadDevinfo_congr {u w : State} (hrx : w.rxBuf = u.rxBuf) (hserial : w.serial = u.serial)
    (hfw : w.fwRev = u.fwRev) (r : Running) :
    (decodeReadDevinfo r w).serial = (decodeReadDevinfo r u).serial ∧
      (decodeReadDevinfo r w).fwRev = (decodeReadDevinfo r u).fwRev := by
  unfold decodeReadDevinfo
  split_ifs <;> simp [State.setSerialLow, State.setSerialHigh, State.setFwRev, hrx, hserial, hfw]

/-! ## FIRSTERR over several writes -/

/-- FIRSTERR after writes answered with `sts`, no error recorded before them (R107). -/
def noteWrites (sts : List Byte) : ErrCode := sts.foldl (fun err st => noteWrite st err) .none

theorem noteWrites_concat (sts : List Byte) (st : Byte) : noteWrites (sts ++ [st]) = noteWrite st (noteWrites sts) :=
  List.foldl_concat ..

/-- Any failed write leaves BUS_WRITE. -/
theorem noteWrites_eq (sts : List Byte) : noteWrites sts = if sts.all writeOk then .none else .busWrite := by
  induction sts using List.reverseRecOn with
  | nil => rfl
  | append_singleton sts st ih =>
    rw [noteWrites_concat, ih, noteWrite, List.all_append]
    cases sts.all writeOk <;> cases hst : writeOk st <;> simp [hst]

/-! ## A held transaction with its decode step -/

/-- A transaction belongs to an operation of R71, and its frame fits TXBUF (R73, R116). -/
theorem operation_of_opTransaction {p : Params} {op : OpCode} {arg old : Byte} {ustep : Fin 4} {tx : Transaction}
    (h : opTransaction p op arg old ustep = some tx) : hostInstr op arg ≠ none ∧ tx.cmd.length ≤ 3 := by
  unfold opTransaction at h
  split at h <;> cases h
  all_goals
    rename_i hop _
    rw [opCode_of_toNat hop]
    exact ⟨Option.some_ne_none _, Nat.le_of_ble_eq_true rfl⟩

theorem hold_iff {tx : Transaction} : tx.hold = true ↔ 0 < tx.n ∧ tx.d = 0 := by
  simp [Transaction.hold]

theorem sameButBusSide_afterHeldRead (s : State) (tx : Transaction) (bs : List Byte) (r : Running) :
    sameButBusSide s (afterHeldRead s tx bs r) := by
  simp [sameButBusSide, afterHeldRead, sendCommand]

/-- The state after a held command whose read returned `bs` and the decode step that follows (R106, R109, R115). -/
def afterHeldDecode (s : State) (tx : Transaction) (bs : List Byte) (r : Running) : State :=
  (opDecode r.op { r with txph := .decode } (afterHeldRead s tx bs r)).advance { r with txph := .decode }

/-- A held command with a listed answer, from its WRITE phase through the decode step. BEGIN may stop before its held command
(R115). -/
theorem runsTo_afterHeldDecode {s : State} {r : Running} {tx : Transaction} {bs : List Byte} {rs : List ReadAnswer}
    (hop : r.op ≠ 0x1) (hreset : s.resetIn = false) (hseq : s.seq = .busy r) (hph : r.txph = .write)
    (htx : s.currentTx r = some tx) (hhold : tx.hold = true) (hissued : readIssued s s.nextStatus)
    (hreads : s.readAnswers = .bytes bs :: rs) (hlen : bs.length = tx.n) : runsTo 3 s (afterHeldDecode s tx bs r) := by
  obtain ⟨hn, hd⟩ := hold_iff.1 hhold
  have hgoes : beginStops s r = false := Bool.eq_false_iff.2 fun hstops => hop (beginStops_iff.1 hstops).1
  have hread := runsTo_afterHeldRead hreset hseq hph (State.turn_of_write htx hph hgoes) hd hn hissued hreads hlen
  obtain ⟨hparams, -, -, -, -, -, -, -, -, -, hreg, -⟩ := sameButBusSide_afterHeldRead s tx bs r
  have hdecode := step_of_decodePhase (r := { r with txph := .decode }) ((afterHeldRead_resetIn s tx bs r).trans hreset)
    (operation_of_opTransaction htx).1 (State.setSeq_seq _ _) (currentTx_congr htx hparams hreg .decode) rfl
  exact runsTo_add hread (runsTo_one hdecode)

/-- A held transaction uses up its two answers, and WSTAT holds the first (R104, R107, R109). -/
theorem afterHeldDecode_answers {s : State} {st : Byte} {ws : List Byte} {bs : List Byte} {rs : List ReadAnswer}
    (hwrites : s.writeAnswers = st :: ws) (hreads : s.readAnswers = .bytes bs :: rs) (tx : Transaction) (r : Running) :
    (afterHeldDecode s tx bs r).wstat = .of st ∧ (afterHeldDecode s tx bs r).writeAnswers = ws ∧
      (afterHeldDecode s tx bs r).readAnswers = rs := by
  obtain ⟨⟨⟨-, -, -, hwstat, -, -, -, -, -, -, hws, hrs, -⟩, -⟩, -⟩ :=
    opDecode_frame r.op { r with txph := .decode } (afterHeldRead s tx bs r)
  rw [afterHeldDecode, State.advance_wstat, State.advance_writeAnswers, State.advance_readAnswers, hwstat, hws, hrs]
  simp [afterHeldRead, sendCommand, hwrites, hreads, State.nextStatus_cons hwrites]

/-! ## A request under way -/

theorem keepsOthersResults_of_sameButBusSide {s t : State} (h : sameButBusSide s t) (op : OpCode) :
    keepsOthersResults op s t := by
  obtain ⟨-, -, -, hvalid, -, hserial, -, hfw, hraw, hresult, hreg, hcrc, -⟩ := h
  exact ⟨fun _ => ⟨hvalid, hcrc⟩, fun _ => ⟨hraw, hresult⟩, fun _ => hreg, fun _ => ⟨hserial, hfw⟩⟩

theorem keepsOthersResults_trans {op : OpCode} {s t u : State} (hparams : t.params = s.params)
    (h : keepsOthersResults op s t) (h' : keepsOthersResults op t u) : keepsOthersResults op s u := by
  obtain ⟨hvalid, hraw, hreg, hident⟩ := h
  obtain ⟨hvalid', hraw', hreg', hident'⟩ := h'
  rw [hparams] at hvalid'
  refine ⟨fun h => ?_, fun h => ?_, fun h => (hreg' h).trans (hreg h), fun h => ?_⟩
  · exact ⟨(hvalid' h).1.trans (hvalid h).1, (hvalid' h).2.trans (hvalid h).2⟩
  · exact ⟨(hraw' h).1.trans (hraw h).1, (hraw' h).2.trans (hraw h).2⟩
  · exact ⟨(hident' h).1.trans (hident h).1, (hident' h).2.trans (hident h).2⟩

/-- `u` is `s` after the request at its port was accepted and some of its transactions ran, and now `r` is running: `rest` is
left at the port, the writes were answered with `sts`, `events` were observed, and no other operation's result changed. -/
structure Underway (s u : State) (r : Running) (rest : List ReqWord) (sts : List Byte) (events : List Event) : Prop where
  seq : u.seq = .busy r
  resetIn : u.resetIn = false
  params : u.params = s.params
  devAddr : u.devAddr = s.devAddr
  reqs : u.reqs = rest
  firstErr : u.firstErr = noteWrites sts
  trace : u.trace = s.trace ++ events
  results : keepsOthersResults r.op s u

/-- At acceptance no transaction ran (R100). -/
theorem underway_accepted {s : State} (hreset : s.resetIn = false) (op : OpCode) (arg : Byte) (rest : List ReqWord) :
    Underway s (accepted s op arg rest) ⟨op, arg, 0, .write⟩ rest [] [] where
  seq := rfl
  resetIn := hreset
  params := rfl
  devAddr := rfl
  reqs := rfl
  firstErr := rfl
  trace := (List.append_nil s.trace).symm
  results := keepsOthersResults_refl op s

/-- One held transaction further: two more events, one more status (R104 to R109, R115). -/
theorem underway_afterHeldDecode {s u : State} {r : Running} {rest : List ReqWord} {sts : List Byte} {events : List Event}
    {tx : Transaction} {st : Byte} {ws : List Byte} (h : Underway s u r rest sts events) (hwrites : u.writeAnswers = st :: ws)
    (hcmd : tx.cmd.length ≤ 3) (bs : List Byte) :
    Underway s (afterHeldDecode u tx bs r) ⟨r.op, r.arg, ustepNext r.ustep, .write⟩ rest (sts ++ [st])
      (events ++ [.write s.devAddr tx.cmd tx.hold st, .read s.devAddr tx.n bs]) := by
  obtain rfl : u.nextStatus = st := State.nextStatus_cons hwrites
  have hread := sameButBusSide_afterHeldRead u tx bs r
  have hkept := keepsOthersResults_of_sameButBusSide hread r.op
  have herr' : (afterHeldRead u tx bs r).firstErr = noteWrite u.nextStatus u.firstErr := rfl
  have htrace' : (afterHeldRead u tx bs r).trace =
      u.trace ++ [.write u.devAddr tx.cmd tx.hold u.nextStatus, .read u.devAddr tx.n bs] := by
    simp [afterHeldRead, sendCommand_trace hcmd]
  obtain ⟨hparams', hdev', -, -, -, -, -, -, -, -, -, -, hreqs', hreset'⟩ := hread
  obtain ⟨⟨⟨hparams, hdev, -, -, -, -, -, -, hreqs, hreset, -, -, -, htrace⟩, -, herr, -⟩, hresults⟩ :=
    opDecode_frame r.op { r with txph := .decode } (afterHeldRead u tx bs r)
  rw [afterHeldDecode]
  generalize opDecode r.op _ _ = v at *
  constructor
  case seq => rfl
  case resetIn => exact (hreset.trans hreset').trans h.resetIn
  case params => exact (hparams.trans hparams').trans h.params
  case devAddr => exact (hdev.trans hdev').trans h.devAddr
  case reqs => exact (hreqs.trans hreqs').trans h.reqs
  case firstErr => rw [State.advance_firstErr, herr, herr', h.firstErr, noteWrites_concat]
  case trace => rw [State.advance_trace, htrace, htrace', h.trace, h.devAddr, List.append_assoc]
  case results => exact keepsOthersResults_trans h.params h.results (keepsOthersResults_trans hparams' hkept hresults)

/-- At the end of its sequence a request completes by default: OK and ERR tell whether all its writes succeeded (R113). -/
theorem Underway.exists_completion {s u : State} {r : Running} {rest : List ReqWord} {sts : List Byte} {events : List Event}
    (h : Underway s u r rest sts events) (hinstr : hostInstr r.op r.arg ≠ none) (h1 : r.op ≠ 0x1) (h5 : r.op ≠ 0x5)
    (hend : r.ustep.val = opLength r.op) (hph : r.txph = .write) :
    ∃ t, step u = .next t ∧ completedWith t.status (sts.all writeOk) (if sts.all writeOk then 0 else 1) ∧
      t = { u with seq := .idle, status := t.status, devinfoDone := u.devinfoDone || decide (r.op = 0x6) } := by
  obtain ⟨i, hi⟩ := Option.ne_none_iff_exists'.1 hinstr
  have hrow := requestRow_of_hostInstr hi
  have hseq : u.seq = .busy ⟨r.op, r.arg, r.ustep, .write⟩ := by rw [h.seq, ← hph]
  obtain ⟨t, hexec, hstatus, ht⟩ :=
    defaultCompletion i r.op r.arg r.ustep u hrow h1 h5 (hend.trans (opLength_of_requestRow hrow h1)) hseq
  rw [h.firstErr, noteWrites_eq] at hstatus
  refine ⟨t, ?_, ?_, ht⟩
  · rw [step_of_operation h.resetIn h.seq (.inr (turn_of_opLength_le hend.ge)) hi, hexec]
  · cases hall : sts.all writeOk <;> rw [hall] at hstatus <;> exact hstatus

/-! ## READ_DEVINFO from acceptance to completion -/

/-- One of READ_DEVINFO's transactions, with what its decode step makes of the response (R180, R181). -/
theorem Underway.exists_devinfoTransaction {s u : State} {arg st : Byte} {ustep : Fin 4} {rest : List ReqWord}
    {sts ws bs : List Byte} {events : List Event} {rs : List ReadAnswer} {tx : Transaction}
    (h : Underway s u ⟨0x6, arg, ustep, .write⟩ rest sts events) (hissued : readIssued s st)
    (hwrites : u.writeAnswers = st :: ws) (hreads : u.readAnswers = .bytes bs :: rs)
    (htx : u.currentTx ⟨0x6, arg, ustep, .write⟩ = some tx) (hhold : tx.hold = true) (hlen : bs.length = tx.n) :
    ∃ v, runsTo 3 u v ∧
      Underway s v ⟨0x6, arg, ustepNext ustep, .write⟩ rest (sts ++ [st])
        (events ++ [.write s.devAddr tx.cmd true st, .read s.devAddr tx.n bs]) ∧
      (v.wstat = .of st ∧ v.writeAnswers = ws ∧ v.readAnswers = rs) ∧
      v.serial = (decodeReadDevinfo ⟨0x6, arg, ustep, .decode⟩ (u.loadRx bs)).serial ∧
      v.fwRev = (decodeReadDevinfo ⟨0x6, arg, ustep, .decode⟩ (u.loadRx bs)).fwRev := by
  have hstatus : u.nextStatus = st := State.nextStatus_cons hwrites
  obtain ⟨-, -, -, -, -, hserial, -, hfw, -⟩ := sameButBusSide_afterHeldRead u tx bs ⟨0x6, arg, ustep, .write⟩
  have hrx : (afterHeldRead u tx bs ⟨0x6, arg, ustep, .write⟩).rxBuf = (u.loadRx bs).rxBuf := rfl
  have hdecode : afterHeldDecode u tx bs ⟨0x6, arg, ustep, .write⟩ =
      (decodeReadDevinfo ⟨0x6, arg, ustep, .decode⟩ (afterHeldRead u tx bs ⟨0x6, arg, ustep, .write⟩)).advance
        ⟨0x6, arg, ustep, .decode⟩ := rfl
  refine ⟨afterHeldDecode u tx bs ⟨0x6, arg, ustep, .write⟩, ?_, hhold ▸ ?_,
    afterHeldDecode_answers hwrites hreads tx _, ?_⟩
  · exact runsTo_afterHeldDecode (by simp) h.resetIn h.seq rfl htx hhold (by rwa [hstatus, readIssued, h.params]) hreads hlen
  · exact underway_afterHeldDecode h hwrites (operation_of_opTransaction htx).2 bs
  · rw [hdecode, State.advance_serial, State.advance_fwRev]
    exact decodeReadDevinfo_congr hrx hserial hfw _

/-- Settles O56: three held transactions, none looking at the statuses before it, then the default completion. -/
theorem readDevinfoRunsToCompletion : Obligations.ReadDevinfoRunsToCompletion := by
  intro s arg st1 st2 st3 d0 c0 d1 c1 d2 c2 d3 c3 e0 f0 e1 f1 e2 f2 e3 f3 v rest ws rs hoffer hcap hwrites hissued1 hissued2
    hissued3 hreads
  obtain ⟨-, hreset, -⟩ := id hoffer
  have hinstr : hostInstr 0x6 arg ≠ none := Option.some_ne_none _
  have haccept := runsTo_one (step_of_acceptedOperation hoffer hinstr hcap)
  obtain ⟨u1, hrun1, hu1, ⟨-, hwrites1, hreads1⟩, hserial1, -⟩ :=
    (underway_accepted hreset 0x6 arg rest).exists_devinfoTransaction (tx := txReadSnPart1) hissued1 hwrites hreads rfl rfl rfl
  obtain ⟨u2, hrun2, hu2, ⟨-, hwrites2, hreads2⟩, hserial2, -⟩ :=
    hu1.exists_devinfoTransaction (tx := txReadSnPart2) hissued2 hwrites1 hreads1 rfl rfl rfl
  obtain ⟨u3, hrun3, hu3, ⟨hwstat, -, -⟩, hserial3, hfw⟩ :=
    hu2.exists_devinfoTransaction (tx := txReadFwrev) hissued3 hwrites2 hreads2 rfl rfl rfl
  obtain ⟨t, hfinish, hstatus, ht⟩ := hu3.exists_completion hinstr (by simp) (by simp) rfl rfl
  have hserial : u3.serial = #v[.of d0, .of d1, .of d2, .of d3, .of e0, .of e1, .of e2, .of e3] := calc
    u3.serial = u2.serial := hserial3
    _ = #v[u1.serial[0], u1.serial[1], u1.serial[2], u1.serial[3], .of e0, .of e1, .of e2, .of e3] := hserial2
    _ = #v[.of d0, .of d1, .of d2, .of d3, .of e0, .of e1, .of e2, .of e3] := by rw [hserial1]; rfl
  have hall : ([] ++ [st1] ++ [st2] ++ [st3]).all writeOk = decide (st1 = 0 ∧ st2 = 0 ∧ st3 = 0) := by
    simp [writeOk_eq, Bool.decide_and]
  simp only [hall, decide_eq_true_eq] at hstatus
  obtain ⟨hchecked, hmeasured, hreg, -⟩ := hu3.results
  obtain ⟨hvalid, -⟩ := hchecked (.inl (by simp))
  obtain ⟨hraw, hresult⟩ := hmeasured (by simp)
  refine ⟨t, runsTo_add haccept (runsTo_add hrun1 (runsTo_add hrun2 (runsTo_add hrun3 (runsTo_one hfinish)))), ?_⟩
  rw [ht]
  exact ⟨rfl, hu3.reqs, hu3.trace, hserial, hfw, Bool.or_true _, hwstat, hstatus, hvalid, hraw, hresult, hreg (by simp)⟩

end Sys2Proof.Proofs.Identity
end

section
/-! SET_HEATER_EN and SET_HEATER_PWR (spec/44_config_heater.md): the field packer of R190, and both operations from acceptance to
completion, a held read of the register and then its write-back. -/

namespace Sys2Proof.Proofs.ConfigHeater

open Sys2Proof Sys2Proof.Machine Sys2Proof.Claims Sys2Proof.Proofs.Steps Sys2Proof.Proofs.BusPhases Sys2Proof.Proofs.Sequence
  Sys2Proof.Proofs.Runs Sys2Proof.Proofs.Measurement Sys2Proof.Proofs.Identity

/-! ## The field packer -/

theorem insertField_getLsbD (old mask val : Byte) (k : Fin 8) :
    (insertField old mask val).getLsbD k = if mask.getLsbD k then val.getLsbD k else old.getLsbD k := by
  rw [insertField_bit]
  cases mask.getLsbD k <;> simp

/-- Outside the mask the old bits stay (R190). -/
theorem insertField_and_not_mask (old mask val : Byte) : insertField old mask val &&& ~~~mask = old &&& ~~~mask := by
  refine BitVec.eq_of_getLsbD_eq fun k hk => ?_
  rw [BitVec.getLsbD_and, BitVec.getLsbD_and, BitVec.getLsbD_not, insertField_getLsbD old mask val ⟨k, hk⟩]
  cases mask.getLsbD k <;> simp

/-- Inside the mask the new bits stand (R190). -/
theorem insertField_and_mask (old mask val : Byte) : insertField old mask val &&& mask = val &&& mask := by
  refine BitVec.eq_of_getLsbD_eq fun k hk => ?_
  rw [BitVec.getLsbD_and, BitVec.getLsbD_and, insertField_getLsbD old mask val ⟨k, hk⟩]
  cases mask.getLsbD k <;> simp

/-- Bit 2 of SET_HEATER_EN's byte is ARG[0] (R196). -/
theorem heaterEnData_getLsbD_two (old arg : Byte) : (heaterEnData old arg).getLsbD 2 = arg.getLsbD 0 := by
  have hbit : (heaterEnData old arg).getLsbD 2 = (if arg.getLsbD 0 then (0x04 : Byte) else 0x00).getLsbD 2 :=
    insertField_getLsbD old maskHeaterEn _ 2
  rw [hbit]
  cases arg.getLsbD 0 <;> rfl

/-- The low four bits of SET_HEATER_PWR's byte are ARG[3:0] (R196). -/
theorem heaterPwrData_and_level (old arg : Byte) : heaterPwrData old arg &&& 0x0F = arg &&& 0x0F := calc
  heaterPwrData old arg &&& 0x0F = arg &&& 0x0F &&& 0x0F := insertField_and_mask old maskHeaterLevel (argLevel arg)
  _ = arg &&& 0x0F := by rw [BitVec.and_assoc, BitVec.and_self]

/-- Settles O36: both heater bytes are packed by INSERT, bit by bit. -/
theorem packerKeepsOtherBits : Obligations.PackerKeepsOtherBits :=
  ⟨insertField_getLsbD,
    fun old arg => ⟨insertField_and_not_mask old maskHeaterEn _, heaterEnData_getLsbD_two old arg⟩,
    fun old arg => ⟨insertField_and_not_mask old maskHeaterLevel _, heaterPwrData_and_level old arg⟩⟩

/-! ## The write-back -/

/-- SET_HEATER_EN or SET_HEATER_PWR (R71). -/
def isHeater (op : OpCode) : Prop := op = 0x7 ∨ op = 0x8

/-- A write with neither a settle delay nor a response goes on to the DECODE phase (R104). -/
theorem writePhase_of_noResponse {tx : Transaction} (hd : tx.d = 0) (hn : tx.n = 0) (s : State) (r : Running) :
    s.writePhase tx r = ((sendCommand s tx).loadRx []).setSeq (.busy { r with txph := .decode }) :=
  (if_neg (Nat.not_lt.2 hd.le)).trans (if_neg (Nat.not_lt.2 hn.le))

/-- The state after a heater operation's second transaction and its decode step: the command sent, nothing received, nothing
decoded (R193, R194). -/
def afterWriteBack (s : State) (tx : Transaction) (op : OpCode) (arg : Byte) : State :=
  ((sendCommand s tx).loadRx []).advance ⟨op, arg, 1, .decode⟩

/-- The WRITE phase of the write-back, and a decode step that writes nothing. -/
theorem runsTo_afterWriteBack {s : State} {op : OpCode} {arg : Byte} {tx : Transaction} (hop : isHeater op)
    (hreset : s.resetIn = false) (hseq : s.seq = .busy ⟨op, arg, 1, .write⟩) (hd : tx.d = 0) (hn : tx.n = 0)
    (htx : s.currentTx ⟨op, arg, 1, .write⟩ = some tx) : runsTo 2 s (afterWriteBack s tx op arg) := by
  have hgoes : beginStops s ⟨op, arg, 1, .write⟩ = false := by rcases hop with rfl | rfl <;> rfl
  have hnothing (u : State) : opDecode op ⟨op, arg, 1, .decode⟩ u = u := by rcases hop with rfl | rfl <;> rfl
  have hwrite := step_of_writePhase hreset hseq rfl (State.turn_of_write htx rfl hgoes)
  rw [writePhase_of_noResponse hd hn] at hwrite
  have hdecode := step_of_decodePhase (r := ⟨op, arg, 1, .decode⟩)
    (s := ((sendCommand s tx).loadRx []).setSeq (.busy ⟨op, arg, 1, .decode⟩)) (by simpa using hreset)
    (operation_of_opTransaction htx).1 (State.setSeq_seq _ _) (currentTx_congr htx (by simp) (by simp) .decode) rfl
  rw [hnothing] at hdecode
  exact runsTo_add (runsTo_one hwrite) (runsTo_one hdecode)

/-- What the write-back leaves behind when it is answered with `st` (R104, R105, R107). -/
theorem afterWriteBack_records {s : State} {st : Byte} {ws : List Byte} {tx : Transaction} (hwrites : s.writeAnswers = st :: ws)
    (hcmd : tx.cmd.length ≤ 3) (op : OpCode) (arg : Byte) :
    let t := afterWriteBack s tx op arg
    t.trace = s.trace ++ [.write s.devAddr tx.cmd tx.hold st] ∧ t.wstat = .of st ∧ t.firstErr = noteWrite st s.firstErr := by
  obtain rfl : s.nextStatus = st := State.nextStatus_cons hwrites
  exact ⟨by simp [afterWriteBack, sendCommand_trace hcmd], by simp [afterWriteBack], by simp [afterWriteBack, sendCommand]⟩

/-- REGBUF stays as the read left it, and so does every register that no bus phase writes (R193, R194). -/
theorem afterWriteBack_frame (s : State) (tx : Transaction) (op : OpCode) (arg : Byte) :
    sameButBusSide s (afterWriteBack s tx op arg) := by
  simp [sameButBusSide, afterWriteBack, sendCommand]

/-- The write-back is one more event and one more status (R104 to R107). -/
theorem underway_afterWriteBack {s u : State} {op : OpCode} {arg st : Byte} {rest : List ReqWord} {sts ws : List Byte}
    {events : List Event} {tx : Transaction} (h : Underway s u ⟨op, arg, 1, .write⟩ rest sts events)
    (hwrites : u.writeAnswers = st :: ws) (hcmd : tx.cmd.length ≤ 3) :
    Underway s (afterWriteBack u tx op arg) ⟨op, arg, 2, .write⟩ rest (sts ++ [st])
      (events ++ [.write s.devAddr tx.cmd tx.hold st]) := by
  obtain ⟨htrace, -, herr⟩ := afterWriteBack_records hwrites hcmd op arg
  have hframe := afterWriteBack_frame u tx op arg
  have hkept := keepsOthersResults_of_sameButBusSide hframe op
  obtain ⟨hparams, hdev, -, -, -, -, -, -, -, -, -, -, hreqs, hreset⟩ := hframe
  constructor
  case seq => exact State.advance_seq _ _
  case resetIn => exact hreset.trans h.resetIn
  case params => exact hparams.trans h.params
  case devAddr => exact hdev.trans h.devAddr
  case reqs => exact hreqs.trans h.reqs
  case firstErr => rw [herr, h.firstErr, noteWrites_concat]
  case trace => rw [htrace, h.trace, h.devAddr, List.append_assoc]
  case results => exact keepsOthersResults_trans h.params h.results hkept

/-- The second transaction of a heater operation, with what it leaves in WSTAT and REGBUF. -/
theorem exists_heaterWriteBack {s u : State} {op : OpCode} {arg st : Byte} {rest : List ReqWord} {sts ws : List Byte}
    {events : List Event} {cmd : List Byte} (hop : isHeater op) (h : Underway s u ⟨op, arg, 1, .write⟩ rest sts events)
    (hwrites : u.writeAnswers = st :: ws) (htx : u.currentTx ⟨op, arg, 1, .write⟩ = some ⟨cmd, 0, 0⟩) :
    ∃ v, runsTo 2 u v ∧
      Underway s v ⟨op, arg, 2, .write⟩ rest (sts ++ [st]) (events ++ [.write s.devAddr cmd false st]) ∧
      v.wstat = .of st ∧ v.regBuf = u.regBuf := by
  have hcmd := (operation_of_opTransaction htx).2
  obtain ⟨-, hwstat, -⟩ := afterWriteBack_records hwrites hcmd op arg
  obtain ⟨-, -, -, -, -, -, -, -, -, -, hreg, -⟩ := afterWriteBack_frame u ⟨cmd, 0, 0⟩ op arg
  exact ⟨_, runsTo_afterWriteBack hop h.resetIn h.seq rfl rfl htx, underway_afterWriteBack h hwrites hcmd, hwstat, hreg⟩

/-! ## From acceptance to completion -/

/-- The decode step after the held read takes the byte into REGBUF (R193, R194). -/
theorem afterHeldDecode_regBuf {op : OpCode} (hop : isHeater op) (s : State) (tx : Transaction) (arg b : Byte) :
    (afterHeldDecode s tx [b] ⟨op, arg, 0, .write⟩).regBuf = .of b := by
  rcases hop with rfl | rfl <;> rfl

/-- Acceptance and the first transaction of a heater operation, the read of its register into REGBUF. -/
theorem exists_heaterRead {s : State} {op : OpCode} {arg st b : Byte} {rest : List ReqWord} {ws : List Byte}
    {rs : List ReadAnswer} {cmd : List Byte} (hop : isHeater op) (hoffer : offers s op arg rest)
    (hcap : s.params.capHeater = true) (hwrites : s.writeAnswers = st :: ws) (hissued : readIssued s st)
    (hreads : s.readAnswers = .bytes [b] :: rs)
    (hread : (accepted s op arg rest).currentTx ⟨op, arg, 0, .write⟩ = some ⟨cmd, 1, 0⟩) :
    ∃ u, runsTo 4 s u ∧
      Underway s u ⟨op, arg, 1, .write⟩ rest [st] [.write s.devAddr cmd true st, .read s.devAddr 1 [b]] ∧
      u.writeAnswers = ws ∧ u.regBuf = .of b := by
  obtain ⟨-, hreset, -⟩ := id hoffer
  obtain ⟨hinstr, hcmd⟩ := operation_of_opTransaction hread
  have hcap' : capability s.params op = true := by rcases hop with rfl | rfl <;> exact hcap
  have hne : op ≠ 0x1 := by rcases hop with rfl | rfl <;> decide
  have haccept : runsTo 1 s (accepted s op arg rest) := runsTo_one (step_of_acceptedOperation hoffer hinstr hcap')
  have hacc := underway_accepted hreset op arg rest
  have hwrites' : (accepted s op arg rest).writeAnswers = st :: ws := hwrites
  have hreads' : (accepted s op arg rest).readAnswers = .bytes [b] :: rs := hreads
  obtain ⟨-, hrest, -⟩ := afterHeldDecode_answers hwrites' hreads' ⟨cmd, 1, 0⟩ ⟨op, arg, 0, .write⟩
  have hheld := runsTo_afterHeldDecode (r := ⟨op, arg, 0, .write⟩) hne hacc.resetIn hacc.seq rfl hread rfl
    (by rwa [State.nextStatus_cons hwrites', readIssued, hacc.params]) hreads' rfl
  exact ⟨_, runsTo_add haccept hheld, underway_afterHeldDecode hacc hwrites' hcmd [b], hrest,
    afterHeldDecode_regBuf hop (accepted s op arg rest) ⟨cmd, 1, 0⟩ arg b⟩

/-- A heater operation reads its register with `rcmd`, then sends `wcmd`, which it makes of the byte read, and completes by
default; it looks at no status on the way (R193, R194). -/
theorem exists_runsTo_heater {s : State} {op : OpCode} {arg st0 st1 b : Byte} {rest : List ReqWord} {ws : List Byte}
    {rs : List ReadAnswer} {rcmd wcmd : List Byte} (hop : isHeater op) (hoffer : offers s op arg rest)
    (hcap : s.params.capHeater = true) (hwrites : s.writeAnswers = st0 :: st1 :: ws) (hissued : readIssued s st0)
    (hreads : s.readAnswers = .bytes [b] :: rs)
    (hread : opTransaction s.params op arg s.regBuf.val 0 = some ⟨rcmd, 1, 0⟩)
    (hwrite : opTransaction s.params op arg b 1 = some ⟨wcmd, 0, 0⟩) :
    ∃ t, runsTo 7 s t ∧ t.seq = .idle ∧ t.reqs = rest ∧
      t.trace = s.trace ++
        [.write s.devAddr rcmd true st0, .read s.devAddr 1 [b], .write s.devAddr wcmd false st1] ∧
      t.regBuf = .of b ∧ t.wstat = .of st1 ∧
      completedWith t.status (decide (st0 = 0 ∧ st1 = 0)) (if st0 = 0 ∧ st1 = 0 then 0 else 1) ∧
      t.valid = s.valid ∧ t.raw = s.raw ∧ t.result = s.result ∧ t.serial = s.serial ∧ t.fwRev = s.fwRev := by
  obtain ⟨u, hrun, hu, hwrites', hreg⟩ := exists_heaterRead hop hoffer hcap hwrites hissued hreads hread
  have htx : u.currentTx ⟨op, arg, 1, .write⟩ = some ⟨wcmd, 0, 0⟩ := by rwa [State.currentTx, hu.params, hreg]
  obtain ⟨v, hrun', hv, hwstat, hreg'⟩ := exists_heaterWriteBack hop hu hwrites' htx
  have hlength : opLength op = 2 := by rcases hop with rfl | rfl <;> rfl
  obtain ⟨h1, h2, h3, h4, h5, h6⟩ : op ≠ 0x1 ∧ op ≠ 0x2 ∧ op ≠ 0x3 ∧ op ≠ 0x4 ∧ op ≠ 0x5 ∧ op ≠ 0x6 := by
    rcases hop with rfl | rfl <;> decide
  obtain ⟨t, hfinish, hstatus, ht⟩ := hv.exists_completion (operation_of_opTransaction hread).1 h1 h5 hlength.symm rfl
  have hall : [st0, st1].all writeOk = decide (st0 = 0 ∧ st1 = 0) := by simp [writeOk_eq, Bool.decide_and]
  simp only [List.singleton_append, hall, decide_eq_true_eq] at hstatus
  obtain ⟨hchecked, hmeasured, -, hident⟩ := hv.results
  obtain ⟨hvalid, -⟩ := hchecked (.inl ⟨h2, h3⟩)
  obtain ⟨hraw, hresult⟩ := hmeasured ⟨h2, h3, h4⟩
  refine ⟨t, runsTo_add hrun (runsTo_add hrun' (runsTo_one hfinish)), ?_⟩
  rw [ht]
  exact ⟨rfl, hv.reqs, hv.trace, hreg'.trans hreg, hwstat, hstatus, hvalid, hraw, hresult, hident h6⟩

/-- Settles O57: the byte written back is the packer's, with the mask of bit 2. -/
theorem setHeaterEnRunsToCompletion : Obligations.SetHeaterEnRunsToCompletion := by
  intro s arg st0 st1 b rest ws rs hoffer hcap hwrites hissued hreads
  rw [← heaterEnData_eq]
  exact exists_runsTo_heater (.inl rfl) hoffer hcap hwrites hissued hreads rfl rfl

/-- Settles O58: the byte written back is the packer's, with the mask of the low four bits. -/
theorem setHeaterPwrRunsToCompletion : Obligations.SetHeaterPwrRunsToCompletion := by
  intro s arg st0 st1 b rest ws rs hoffer hcap hwrites hissued hreads
  rw [← heaterPwrData_eq]
  exact exists_runsTo_heater (.inr rfl) hoffer hcap hwrites hissued hreads rfl rfl

end Sys2Proof.Proofs.ConfigHeater
end

section
/-! The checksum validator (spec/45_checksum.md): the byte-serial and the bit-serial form of one CRC, and its values. -/

namespace Sys2Proof.Proofs.Checksum

open Sys2Proof Sys2Proof.Machine Sys2Proof.Claims

/-- The `k` highest bits of a byte, most significant first: the bits that `k` shifts of R212 take from it. -/
def topBits : Nat → Byte → List Bool
  | 0, _ => []
  | k + 1, b => b.getLsbD 7 :: topBits k (b <<< 1)

/-- A byte is fed in by its eight highest bits (R212). -/
theorem bitsMsbFirst_eq_topBits (b : Byte) : bitsMsbFirst b = topBits 8 b := by
  simp [bitsMsbFirst, topBits]

/-- `k` rounds with a byte mixed in beforehand are `k` serial shifts over its highest bits; its other bits, moved up, are still
mixed in. -/
theorem crcRounds_xor (k : Nat) (c b : Byte) : crcRounds k (c ^^^ b) = (topBits k b).foldl crcBit c ^^^ (b <<< k) := by
  induction k generalizing c b with
  | zero => simp [crcRounds, topBits]
  | succ k ih =>
    calc crcRounds (k + 1) (c ^^^ b)
        = crcRounds k (crcBit c (b.getLsbD 7) ^^^ (b <<< 1)) := by rw [crcRounds, crcRound_xor]
      _ = (topBits k (b <<< 1)).foldl crcBit (crcBit c (b.getLsbD 7)) ^^^ ((b <<< 1) <<< k) := ih _ _
      _ = (topBits (k + 1) b).foldl crcBit c ^^^ (b <<< (k + 1)) := by
        rw [← BitVec.shiftLeft_add, Nat.add_comm 1 k, topBits, List.foldl_cons]

/-- The byte-serial step of R211 is eight bit-serial steps of R212: all eight bits have been shifted out. -/
theorem crcByte_eq_foldl_crcBit (c b : Byte) : crcByte c b = (bitsMsbFirst b).foldl crcBit c := by
  have hout : b <<< 8 = 0#8 := BitVec.shiftLeft_eq_zero le_rfl
  rw [crcByte, crcRounds_xor, hout, BitVec.xor_zero, bitsMsbFirst_eq_topBits]

/-- Settles O39: byte by byte, whatever the register holds before. -/
theorem serialChecksumAgrees : Obligations.SerialChecksumAgrees := by
  intro bs
  rw [crc8Serial, crc8, List.foldl_flatMap, ← funext₂ crcByte_eq_foldl_crcBit]

/-- A byte equal to the register clears it: the sum is 0, and a register of 0 stays 0 in every round (R211). -/
theorem crcByte_self (c : Byte) : crcByte c c = 0 := by
  rw [crcByte, BitVec.xor_self]
  decide

/-- Settles O40: the last byte is the register itself. -/
theorem checksumOfCheckedMessageIsZero : Obligations.ChecksumOfCheckedMessageIsZero := by
  intro bs
  rw [crc8_append, crcByte_self]

/-- Settles O38: four values, computed by R211. -/
theorem checksumCornerValues : Obligations.ChecksumCornerValues := by
  unfold Obligations.ChecksumCornerValues
  decide +kernel

end Sys2Proof.Proofs.Checksum
end

section
/-! The exceptions (spec/60_exceptions.md): the codec has none, so every step has a next state. -/

namespace Sys2Proof.Proofs.Exceptions

open Sys2Proof Sys2Proof.Machine Sys2Proof.Claims Sys2Proof.Proofs.Steps

/-- No instruction faults or is refused: a host request answers with `hostOp`, a wire command with `runPhase`. -/
theorem exists_exec_eq_next (i : Instr) (s : State) : ∃ t, exec i s = .next t := by
  cases hrow : requestRow i with
  | some row => exact ⟨_, exec_of_requestRow hrow s⟩
  | none =>
    obtain ⟨cmd, n, d, hold, hwire⟩ := exists_wireRow hrow s.params
    exact ⟨_, exec_of_wireRow hwire⟩

/-- Settles O13, by what the step fetches. -/
theorem everyStepAnswersANextState : Obligations.EveryStepAnswersANextState := by
  intro s
  unfold step
  cases s.fetch with
  | codecReset => exact ⟨s.codecReset, rfl⟩
  | nothing => exact ⟨s, rfl⟩
  | reserved op arg => exact ⟨s.takeRequest.rejectRequest, rfl⟩
  | instr i => exact exists_exec_eq_next i s.takeRequest

end Sys2Proof.Proofs.Exceptions
end

section
/-! The codec reset as a step (spec/70_reset_and_hazards.md): one step at any time, every register to its value of R42. -/

namespace Sys2Proof.Proofs.Reset

open Sys2Proof Sys2Proof.Machine Sys2Proof.Claims

/-- The codec's own test for a hanging read is the condition of R109 and R111: its status test is `= 0`, and the answers matter by
the first one alone. -/
theorem hungRead_eq_hangs (s : State) : s.hungRead = hangs s := by
  unfold State.hungRead hangs
  cases s.seq with
  | idle => rfl
  | busy r =>
    have hissued : s.txOk = decide (s.wstat.val = 0) := writeOk_eq s.wstat.val
    have hphase : (r.txph == .read) = decide (r.txph = .read) := beq_eq_decide _ _
    simp only [hissued, hphase]
    cases s.readAnswers with
    | nil => rfl
    | cons answer _ => cases answer <;> rfl

/-- Settles O2: the step is `codecReset`, which takes an answer from the read port exactly when a read hangs. -/
theorem codecResetTakesOneStepFromAnyState : Obligations.CodecResetTakesOneStepFromAnyState := by
  intro s hreset
  rw [step_of_reset hreset, State.codecReset_eq, State.answersAfterReset, hungRead_eq_hangs]

end Sys2Proof.Proofs.Reset
end
